-- ==== Sys2Proof/Word.lean ====
section
/-! DEFINITION. The two widths of the machine (R6): the byte, which is every general register and the bus datum,
and the 16-bit word, which is PC, SP and every bus address. -/

namespace Sys2Proof

/-- An 8-bit value, `u8` of R9. -/
abbrev Byte := BitVec 8

/-- A 16-bit value, `u16` of R9. -/
abbrev Word := BitVec 16

end Sys2Proof
end

