-- ==== Sys2Proof/Syntax.lean ====
section
/-! DEFINITION. The instructions: one constructor per row of spec/opcode_table.json (the rows with operand bytes
first, then the others, each in the table's order), and the operand fields R142-R149 by which the spec groups them. A
constructor's name spells the row's assembler syntax (R174), `at` standing for the parentheses: `ld_A_atHLinc` is
`LD A,(HL+)`. The arguments are the operand bytes the row takes (R150-R152): `n` an unsigned byte, `e` the raw byte of a
signed offset, `nn` a 16-bit immediate. -/

namespace Sys2Proof

/-- The eight 8-bit registers of the Register File (R30). -/
inductive Reg8 where
  | a | f | b | c | d | e | h | l
  deriving DecidableEq, Repr

/-- The registers the 3-bit field `r` of R142 names: every code but 6, which is `(HL)`. F is never one. -/
inductive OpReg where
  | b | c | d | e | h | l | a
  deriving DecidableEq, Repr

/-- The register a field value of R142 stands for. -/
def OpReg.reg : OpReg → Reg8
  | .b => .b
  | .c => .c
  | .d => .d
  | .e => .e
  | .h => .h
  | .l => .l
  | .a => .a

/-- The pairs the 2-bit field `rr` of R143 names. -/
inductive PairRR where
  | bc | de | hl | sp
  deriving DecidableEq, Repr

/-- The pairs the 2-bit field `qq` of R144 names. -/
inductive PairQQ where
  | bc | de | hl | af
  deriving DecidableEq, Repr

/-- The conditions the 2-bit field `cc` of R145 names. -/
inductive Cond where
  | nz | z | nc | c
  deriving DecidableEq, Repr

/-- The operations of the 3-bit ALU field `ooo` of R146. -/
inductive AluOp where
  | add | adc | sub | sbc | and | xor | or | cp
  deriving DecidableEq, Repr

/-- The rotate and shift operations of extended group 0 (R147). -/
inductive RotOp where
  | rlc | rrc | rl | rr | sla | sra | swap | srl
  deriving DecidableEq, Repr

/-- The instructions (R157, R159), with the escape (R156) and the unpopulated base slots (R158) as the rows they
are in the table. -/
inductive Instr where
  /-- `LD BC,nn` (R220). -/
  | ld_BC_nn (nn : Word)
  /-- `LD B,n` (R202). -/
  | ld_B_n (n : Byte)
  /-- `LD (nn),SP` (R221). -/
  | ld_atnn_SP (nn : Word)
  /-- `LD C,n` (R202). -/
  | ld_C_n (n : Byte)
  /-- `STOP` (R422). -/
  | stop (n : Byte)
  /-- `LD DE,nn` (R220). -/
  | ld_DE_nn (nn : Word)
  /-- `LD D,n` (R202). -/
  | ld_D_n (n : Byte)
  /-- `JR e` (R383). -/
  | jr_e (e : Byte)
  /-- `LD E,n` (R202). -/
  | ld_E_n (n : Byte)
  /-- `JR NZ,e` (R384). -/
  | jr_NZ_e (e : Byte)
  /-- `LD HL,nn` (R220). -/
  | ld_HL_nn (nn : Word)
  /-- `LD H,n` (R202). -/
  | ld_H_n (n : Byte)
  /-- `JR Z,e` (R384). -/
  | jr_Z_e (e : Byte)
  /-- `LD L,n` (R202). -/
  | ld_L_n (n : Byte)
  /-- `JR NC,e` (R384). -/
  | jr_NC_e (e : Byte)
  /-- `LD SP,nn` (R220). -/
  | ld_SP_nn (nn : Word)
  /-- `LD (HL),n` (R205). -/
  | ld_atHL_n (n : Byte)
  /-- `JR C,e` (R384). -/
  | jr_C_e (e : Byte)
  /-- `LD A,n` (R202). -/
  | ld_A_n (n : Byte)
  /-- `JP NZ,nn` (R381). -/
  | jp_NZ_nn (nn : Word)
  /-- `JP nn` (R380). -/
  | jp_nn (nn : Word)
  /-- `CALL NZ,nn` (R386). -/
  | call_NZ_nn (nn : Word)
  /-- `ADD A,n` (R253). -/
  | add_A_n (n : Byte)
  /-- `JP Z,nn` (R381). -/
  | jp_Z_nn (nn : Word)
  /-- `CALL Z,nn` (R386). -/
  | call_Z_nn (nn : Word)
  /-- `CALL nn` (R385). -/
  | call_nn (nn : Word)
  /-- `ADC A,n` (R256). -/
  | adc_A_n (n : Byte)
  /-- `JP NC,nn` (R381). -/
  | jp_NC_nn (nn : Word)
  /-- `CALL NC,nn` (R386). -/
  | call_NC_nn (nn : Word)
  /-- `SUB n` (R259). -/
  | sub_n (n : Byte)
  /-- `JP C,nn` (R381). -/
  | jp_C_nn (nn : Word)
  /-- `CALL C,nn` (R386). -/
  | call_C_nn (nn : Word)
  /-- `SBC A,n` (R262). -/
  | sbc_A_n (n : Byte)
  /-- `LDH (n),A` (R213). -/
  | ldh_atn_A (n : Byte)
  /-- `AND n` (R265). -/
  | and_n (n : Byte)
  /-- `ADD SP,e` (R301). -/
  | add_SP_e (e : Byte)
  /-- `LD (nn),A` (R211). -/
  | ld_atnn_A (nn : Word)
  /-- `XOR n` (R268). -/
  | xor_n (n : Byte)
  /-- `LDH A,(n)` (R212). -/
  | ldh_A_atn (n : Byte)
  /-- `OR n` (R271). -/
  | or_n (n : Byte)
  /-- `LD HL,SP+e` (R223). -/
  | ld_HL_SPe (e : Byte)
  /-- `LD A,(nn)` (R210). -/
  | ld_A_atnn (nn : Word)
  /-- `CP n` (R274). -/
  | cp_n (n : Byte)
  /-- `NOP` (R420). -/
  | nop
  /-- `LD (BC),A` (R208). -/
  | ld_atBC_A
  /-- `INC BC` (R302). -/
  | inc_BC
  /-- `INC B` (R275). -/
  | inc_B
  /-- `DEC B` (R277). -/
  | dec_B
  /-- `RLCA` (R320). -/
  | rlca
  /-- `ADD HL,BC` (R300). -/
  | add_HL_BC
  /-- `LD A,(BC)` (R206). -/
  | ld_A_atBC
  /-- `DEC BC` (R303). -/
  | dec_BC
  /-- `INC C` (R275). -/
  | inc_C
  /-- `DEC C` (R277). -/
  | dec_C
  /-- `RRCA` (R321). -/
  | rrca
  /-- `LD (DE),A` (R209). -/
  | ld_atDE_A
  /-- `INC DE` (R302). -/
  | inc_DE
  /-- `INC D` (R275). -/
  | inc_D
  /-- `DEC D` (R277). -/
  | dec_D
  /-- `RLA` (R322). -/
  | rla
  /-- `ADD HL,DE` (R300). -/
  | add_HL_DE
  /-- `LD A,(DE)` (R207). -/
  | ld_A_atDE
  /-- `DEC DE` (R303). -/
  | dec_DE
  /-- `INC E` (R275). -/
  | inc_E
  /-- `DEC E` (R277). -/
  | dec_E
  /-- `RRA` (R323). -/
  | rra
  /-- `LD (HL+),A` (R216). -/
  | ld_atHLinc_A
  /-- `INC HL` (R302). -/
  | inc_HL
  /-- `INC H` (R275). -/
  | inc_H
  /-- `DEC H` (R277). -/
  | dec_H
  /-- `DAA` (R279). -/
  | daa
  /-- `ADD HL,HL` (R300). -/
  | add_HL_HL
  /-- `LD A,(HL+)` (R217). -/
  | ld_A_atHLinc
  /-- `DEC HL` (R303). -/
  | dec_HL
  /-- `INC L` (R275). -/
  | inc_L
  /-- `DEC L` (R277). -/
  | dec_L
  /-- `CPL` (R280). -/
  | cpl
  /-- `LD (HL-),A` (R218). -/
  | ld_atHLdec_A
  /-- `INC SP` (R302). -/
  | inc_SP
  /-- `INC (HL)` (R276). -/
  | inc_atHL
  /-- `DEC (HL)` (R278). -/
  | dec_atHL
  /-- `SCF` (R281). -/
  | scf
  /-- `ADD HL,SP` (R300). -/
  | add_HL_SP
  /-- `LD A,(HL-)` (R219). -/
  | ld_A_atHLdec
  /-- `DEC SP` (R303). -/
  | dec_SP
  /-- `INC A` (R275). -/
  | inc_A
  /-- `DEC A` (R277). -/
  | dec_A
  /-- `CCF` (R282). -/
  | ccf
  /-- `LD B,B` (R201). -/
  | ld_B_B
  /-- `LD B,C` (R201). -/
  | ld_B_C
  /-- `LD B,D` (R201). -/
  | ld_B_D
  /-- `LD B,E` (R201). -/
  | ld_B_E
  /-- `LD B,H` (R201). -/
  | ld_B_H
  /-- `LD B,L` (R201). -/
  | ld_B_L
  /-- `LD B,(HL)` (R203). -/
  | ld_B_atHL
  /-- `LD B,A` (R201). -/
  | ld_B_A
  /-- `LD C,B` (R201). -/
  | ld_C_B
  /-- `LD C,C` (R201). -/
  | ld_C_C
  /-- `LD C,D` (R201). -/
  | ld_C_D
  /-- `LD C,E` (R201). -/
  | ld_C_E
  /-- `LD C,H` (R201). -/
  | ld_C_H
  /-- `LD C,L` (R201). -/
  | ld_C_L
  /-- `LD C,(HL)` (R203). -/
  | ld_C_atHL
  /-- `LD C,A` (R201). -/
  | ld_C_A
  /-- `LD D,B` (R201). -/
  | ld_D_B
  /-- `LD D,C` (R201). -/
  | ld_D_C
  /-- `LD D,D` (R201). -/
  | ld_D_D
  /-- `LD D,E` (R201). -/
  | ld_D_E
  /-- `LD D,H` (R201). -/
  | ld_D_H
  /-- `LD D,L` (R201). -/
  | ld_D_L
  /-- `LD D,(HL)` (R203). -/
  | ld_D_atHL
  /-- `LD D,A` (R201). -/
  | ld_D_A
  /-- `LD E,B` (R201). -/
  | ld_E_B
  /-- `LD E,C` (R201). -/
  | ld_E_C
  /-- `LD E,D` (R201). -/
  | ld_E_D
  /-- `LD E,E` (R201). -/
  | ld_E_E
  /-- `LD E,H` (R201). -/
  | ld_E_H
  /-- `LD E,L` (R201). -/
  | ld_E_L
  /-- `LD E,(HL)` (R203). -/
  | ld_E_atHL
  /-- `LD E,A` (R201). -/
  | ld_E_A
  /-- `LD H,B` (R201). -/
  | ld_H_B
  /-- `LD H,C` (R201). -/
  | ld_H_C
  /-- `LD H,D` (R201). -/
  | ld_H_D
  /-- `LD H,E` (R201). -/
  | ld_H_E
  /-- `LD H,H` (R201). -/
  | ld_H_H
  /-- `LD H,L` (R201). -/
  | ld_H_L
  /-- `LD H,(HL)` (R203). -/
  | ld_H_atHL
  /-- `LD H,A` (R201). -/
  | ld_H_A
  /-- `LD L,B` (R201). -/
  | ld_L_B
  /-- `LD L,C` (R201). -/
  | ld_L_C
  /-- `LD L,D` (R201). -/
  | ld_L_D
  /-- `LD L,E` (R201). -/
  | ld_L_E
  /-- `LD L,H` (R201). -/
  | ld_L_H
  /-- `LD L,L` (R201). -/
  | ld_L_L
  /-- `LD L,(HL)` (R203). -/
  | ld_L_atHL
  /-- `LD L,A` (R201). -/
  | ld_L_A
  /-- `LD (HL),B` (R204). -/
  | ld_atHL_B
  /-- `LD (HL),C` (R204). -/
  | ld_atHL_C
  /-- `LD (HL),D` (R204). -/
  | ld_atHL_D
  /-- `LD (HL),E` (R204). -/
  | ld_atHL_E
  /-- `LD (HL),H` (R204). -/
  | ld_atHL_H
  /-- `LD (HL),L` (R204). -/
  | ld_atHL_L
  /-- `HALT` (R421). -/
  | halt
  /-- `LD (HL),A` (R204). -/
  | ld_atHL_A
  /-- `LD A,B` (R201). -/
  | ld_A_B
  /-- `LD A,C` (R201). -/
  | ld_A_C
  /-- `LD A,D` (R201). -/
  | ld_A_D
  /-- `LD A,E` (R201). -/
  | ld_A_E
  /-- `LD A,H` (R201). -/
  | ld_A_H
  /-- `LD A,L` (R201). -/
  | ld_A_L
  /-- `LD A,(HL)` (R203). -/
  | ld_A_atHL
  /-- `LD A,A` (R201). -/
  | ld_A_A
  /-- `ADD A,B` (R251). -/
  | add_A_B
  /-- `ADD A,C` (R251). -/
  | add_A_C
  /-- `ADD A,D` (R251). -/
  | add_A_D
  /-- `ADD A,E` (R251). -/
  | add_A_E
  /-- `ADD A,H` (R251). -/
  | add_A_H
  /-- `ADD A,L` (R251). -/
  | add_A_L
  /-- `ADD A,(HL)` (R252). -/
  | add_A_atHL
  /-- `ADD A,A` (R251). -/
  | add_A_A
  /-- `ADC A,B` (R254). -/
  | adc_A_B
  /-- `ADC A,C` (R254). -/
  | adc_A_C
  /-- `ADC A,D` (R254). -/
  | adc_A_D
  /-- `ADC A,E` (R254). -/
  | adc_A_E
  /-- `ADC A,H` (R254). -/
  | adc_A_H
  /-- `ADC A,L` (R254). -/
  | adc_A_L
  /-- `ADC A,(HL)` (R255). -/
  | adc_A_atHL
  /-- `ADC A,A` (R254). -/
  | adc_A_A
  /-- `SUB B` (R257). -/
  | sub_B
  /-- `SUB C` (R257). -/
  | sub_C
  /-- `SUB D` (R257). -/
  | sub_D
  /-- `SUB E` (R257). -/
  | sub_E
  /-- `SUB H` (R257). -/
  | sub_H
  /-- `SUB L` (R257). -/
  | sub_L
  /-- `SUB (HL)` (R258). -/
  | sub_atHL
  /-- `SUB A` (R257). -/
  | sub_A
  /-- `SBC A,B` (R260). -/
  | sbc_A_B
  /-- `SBC A,C` (R260). -/
  | sbc_A_C
  /-- `SBC A,D` (R260). -/
  | sbc_A_D
  /-- `SBC A,E` (R260). -/
  | sbc_A_E
  /-- `SBC A,H` (R260). -/
  | sbc_A_H
  /-- `SBC A,L` (R260). -/
  | sbc_A_L
  /-- `SBC A,(HL)` (R261). -/
  | sbc_A_atHL
  /-- `SBC A,A` (R260). -/
  | sbc_A_A
  /-- `AND B` (R263). -/
  | and_B
  /-- `AND C` (R263). -/
  | and_C
  /-- `AND D` (R263). -/
  | and_D
  /-- `AND E` (R263). -/
  | and_E
  /-- `AND H` (R263). -/
  | and_H
  /-- `AND L` (R263). -/
  | and_L
  /-- `AND (HL)` (R264). -/
  | and_atHL
  /-- `AND A` (R263). -/
  | and_A
  /-- `XOR B` (R266). -/
  | xor_B
  /-- `XOR C` (R266). -/
  | xor_C
  /-- `XOR D` (R266). -/
  | xor_D
  /-- `XOR E` (R266). -/
  | xor_E
  /-- `XOR H` (R266). -/
  | xor_H
  /-- `XOR L` (R266). -/
  | xor_L
  /-- `XOR (HL)` (R267). -/
  | xor_atHL
  /-- `XOR A` (R266). -/
  | xor_A
  /-- `OR B` (R269). -/
  | or_B
  /-- `OR C` (R269). -/
  | or_C
  /-- `OR D` (R269). -/
  | or_D
  /-- `OR E` (R269). -/
  | or_E
  /-- `OR H` (R269). -/
  | or_H
  /-- `OR L` (R269). -/
  | or_L
  /-- `OR (HL)` (R270). -/
  | or_atHL
  /-- `OR A` (R269). -/
  | or_A
  /-- `CP B` (R272). -/
  | cp_B
  /-- `CP C` (R272). -/
  | cp_C
  /-- `CP D` (R272). -/
  | cp_D
  /-- `CP E` (R272). -/
  | cp_E
  /-- `CP H` (R272). -/
  | cp_H
  /-- `CP L` (R272). -/
  | cp_L
  /-- `CP (HL)` (R273). -/
  | cp_atHL
  /-- `CP A` (R272). -/
  | cp_A
  /-- `RET NZ` (R388). -/
  | ret_NZ
  /-- `POP BC` (R225). -/
  | pop_BC
  /-- `PUSH BC` (R224). -/
  | push_BC
  /-- `RST 00h` (R390). -/
  | rst_00h
  /-- `RET Z` (R388). -/
  | ret_Z
  /-- `RET` (R387). -/
  | ret
  /-- `PREFIX CB` (R156). -/
  | prefixCB
  /-- `RST 08h` (R390). -/
  | rst_08h
  /-- `RET NC` (R388). -/
  | ret_NC
  /-- `POP DE` (R225). -/
  | pop_DE
  /-- `slot D3, unpopulated` (R158). -/
  | unpopulated_D3
  /-- `PUSH DE` (R224). -/
  | push_DE
  /-- `RST 10h` (R390). -/
  | rst_10h
  /-- `RET C` (R388). -/
  | ret_C
  /-- `RETI` (R389). -/
  | reti
  /-- `slot DB, unpopulated` (R158). -/
  | unpopulated_DB
  /-- `slot DD, unpopulated` (R158). -/
  | unpopulated_DD
  /-- `RST 18h` (R390). -/
  | rst_18h
  /-- `POP HL` (R225). -/
  | pop_HL
  /-- `LD (C),A` (R215). -/
  | ld_atC_A
  /-- `slot E3, unpopulated` (R158). -/
  | unpopulated_E3
  /-- `slot E4, unpopulated` (R158). -/
  | unpopulated_E4
  /-- `PUSH HL` (R224). -/
  | push_HL
  /-- `RST 20h` (R390). -/
  | rst_20h
  /-- `JP HL` (R382). -/
  | jp_HL
  /-- `slot EB, unpopulated` (R158). -/
  | unpopulated_EB
  /-- `slot EC, unpopulated` (R158). -/
  | unpopulated_EC
  /-- `slot ED, unpopulated` (R158). -/
  | unpopulated_ED
  /-- `RST 28h` (R390). -/
  | rst_28h
  /-- `POP AF` (R225). -/
  | pop_AF
  /-- `LD A,(C)` (R214). -/
  | ld_A_atC
  /-- `DI` (R423). -/
  | di
  /-- `slot F4, unpopulated` (R158). -/
  | unpopulated_F4
  /-- `PUSH AF` (R224). -/
  | push_AF
  /-- `RST 30h` (R390). -/
  | rst_30h
  /-- `LD SP,HL` (R222). -/
  | ld_SP_HL
  /-- `EI` (R424). -/
  | ei
  /-- `slot FC, unpopulated` (R158). -/
  | unpopulated_FC
  /-- `slot FD, unpopulated` (R158). -/
  | unpopulated_FD
  /-- `RST 38h` (R390). -/
  | rst_38h
  /-- `RLC B` (R324). -/
  | rlc_B
  /-- `RLC C` (R324). -/
  | rlc_C
  /-- `RLC D` (R324). -/
  | rlc_D
  /-- `RLC E` (R324). -/
  | rlc_E
  /-- `RLC H` (R324). -/
  | rlc_H
  /-- `RLC L` (R324). -/
  | rlc_L
  /-- `RLC (HL)` (R325). -/
  | rlc_atHL
  /-- `RLC A` (R324). -/
  | rlc_A
  /-- `RRC B` (R326). -/
  | rrc_B
  /-- `RRC C` (R326). -/
  | rrc_C
  /-- `RRC D` (R326). -/
  | rrc_D
  /-- `RRC E` (R326). -/
  | rrc_E
  /-- `RRC H` (R326). -/
  | rrc_H
  /-- `RRC L` (R326). -/
  | rrc_L
  /-- `RRC (HL)` (R327). -/
  | rrc_atHL
  /-- `RRC A` (R326). -/
  | rrc_A
  /-- `RL B` (R328). -/
  | rl_B
  /-- `RL C` (R328). -/
  | rl_C
  /-- `RL D` (R328). -/
  | rl_D
  /-- `RL E` (R328). -/
  | rl_E
  /-- `RL H` (R328). -/
  | rl_H
  /-- `RL L` (R328). -/
  | rl_L
  /-- `RL (HL)` (R329). -/
  | rl_atHL
  /-- `RL A` (R328). -/
  | rl_A
  /-- `RR B` (R330). -/
  | rr_B
  /-- `RR C` (R330). -/
  | rr_C
  /-- `RR D` (R330). -/
  | rr_D
  /-- `RR E` (R330). -/
  | rr_E
  /-- `RR H` (R330). -/
  | rr_H
  /-- `RR L` (R330). -/
  | rr_L
  /-- `RR (HL)` (R331). -/
  | rr_atHL
  /-- `RR A` (R330). -/
  | rr_A
  /-- `SLA B` (R332). -/
  | sla_B
  /-- `SLA C` (R332). -/
  | sla_C
  /-- `SLA D` (R332). -/
  | sla_D
  /-- `SLA E` (R332). -/
  | sla_E
  /-- `SLA H` (R332). -/
  | sla_H
  /-- `SLA L` (R332). -/
  | sla_L
  /-- `SLA (HL)` (R333). -/
  | sla_atHL
  /-- `SLA A` (R332). -/
  | sla_A
  /-- `SRA B` (R334). -/
  | sra_B
  /-- `SRA C` (R334). -/
  | sra_C
  /-- `SRA D` (R334). -/
  | sra_D
  /-- `SRA E` (R334). -/
  | sra_E
  /-- `SRA H` (R334). -/
  | sra_H
  /-- `SRA L` (R334). -/
  | sra_L
  /-- `SRA (HL)` (R335). -/
  | sra_atHL
  /-- `SRA A` (R334). -/
  | sra_A
  /-- `SWAP B` (R336). -/
  | swap_B
  /-- `SWAP C` (R336). -/
  | swap_C
  /-- `SWAP D` (R336). -/
  | swap_D
  /-- `SWAP E` (R336). -/
  | swap_E
  /-- `SWAP H` (R336). -/
  | swap_H
  /-- `SWAP L` (R336). -/
  | swap_L
  /-- `SWAP (HL)` (R337). -/
  | swap_atHL
  /-- `SWAP A` (R336). -/
  | swap_A
  /-- `SRL B` (R338). -/
  | srl_B
  /-- `SRL C` (R338). -/
  | srl_C
  /-- `SRL D` (R338). -/
  | srl_D
  /-- `SRL E` (R338). -/
  | srl_E
  /-- `SRL H` (R338). -/
  | srl_H
  /-- `SRL L` (R338). -/
  | srl_L
  /-- `SRL (HL)` (R339). -/
  | srl_atHL
  /-- `SRL A` (R338). -/
  | srl_A
  /-- `BIT 0,B` (R360). -/
  | bit_0_B
  /-- `BIT 0,C` (R360). -/
  | bit_0_C
  /-- `BIT 0,D` (R360). -/
  | bit_0_D
  /-- `BIT 0,E` (R360). -/
  | bit_0_E
  /-- `BIT 0,H` (R360). -/
  | bit_0_H
  /-- `BIT 0,L` (R360). -/
  | bit_0_L
  /-- `BIT 0,(HL)` (R361). -/
  | bit_0_atHL
  /-- `BIT 0,A` (R360). -/
  | bit_0_A
  /-- `BIT 1,B` (R360). -/
  | bit_1_B
  /-- `BIT 1,C` (R360). -/
  | bit_1_C
  /-- `BIT 1,D` (R360). -/
  | bit_1_D
  /-- `BIT 1,E` (R360). -/
  | bit_1_E
  /-- `BIT 1,H` (R360). -/
  | bit_1_H
  /-- `BIT 1,L` (R360). -/
  | bit_1_L
  /-- `BIT 1,(HL)` (R361). -/
  | bit_1_atHL
  /-- `BIT 1,A` (R360). -/
  | bit_1_A
  /-- `BIT 2,B` (R360). -/
  | bit_2_B
  /-- `BIT 2,C` (R360). -/
  | bit_2_C
  /-- `BIT 2,D` (R360). -/
  | bit_2_D
  /-- `BIT 2,E` (R360). -/
  | bit_2_E
  /-- `BIT 2,H` (R360). -/
  | bit_2_H
  /-- `BIT 2,L` (R360). -/
  | bit_2_L
  /-- `BIT 2,(HL)` (R361). -/
  | bit_2_atHL
  /-- `BIT 2,A` (R360). -/
  | bit_2_A
  /-- `BIT 3,B` (R360). -/
  | bit_3_B
  /-- `BIT 3,C` (R360). -/
  | bit_3_C
  /-- `BIT 3,D` (R360). -/
  | bit_3_D
  /-- `BIT 3,E` (R360). -/
  | bit_3_E
  /-- `BIT 3,H` (R360). -/
  | bit_3_H
  /-- `BIT 3,L` (R360). -/
  | bit_3_L
  /-- `BIT 3,(HL)` (R361). -/
  | bit_3_atHL
  /-- `BIT 3,A` (R360). -/
  | bit_3_A
  /-- `BIT 4,B` (R360). -/
  | bit_4_B
  /-- `BIT 4,C` (R360). -/
  | bit_4_C
  /-- `BIT 4,D` (R360). -/
  | bit_4_D
  /-- `BIT 4,E` (R360). -/
  | bit_4_E
  /-- `BIT 4,H` (R360). -/
  | bit_4_H
  /-- `BIT 4,L` (R360). -/
  | bit_4_L
  /-- `BIT 4,(HL)` (R361). -/
  | bit_4_atHL
  /-- `BIT 4,A` (R360). -/
  | bit_4_A
  /-- `BIT 5,B` (R360). -/
  | bit_5_B
  /-- `BIT 5,C` (R360). -/
  | bit_5_C
  /-- `BIT 5,D` (R360). -/
  | bit_5_D
  /-- `BIT 5,E` (R360). -/
  | bit_5_E
  /-- `BIT 5,H` (R360). -/
  | bit_5_H
  /-- `BIT 5,L` (R360). -/
  | bit_5_L
  /-- `BIT 5,(HL)` (R361). -/
  | bit_5_atHL
  /-- `BIT 5,A` (R360). -/
  | bit_5_A
  /-- `BIT 6,B` (R360). -/
  | bit_6_B
  /-- `BIT 6,C` (R360). -/
  | bit_6_C
  /-- `BIT 6,D` (R360). -/
  | bit_6_D
  /-- `BIT 6,E` (R360). -/
  | bit_6_E
  /-- `BIT 6,H` (R360). -/
  | bit_6_H
  /-- `BIT 6,L` (R360). -/
  | bit_6_L
  /-- `BIT 6,(HL)` (R361). -/
  | bit_6_atHL
  /-- `BIT 6,A` (R360). -/
  | bit_6_A
  /-- `BIT 7,B` (R360). -/
  | bit_7_B
  /-- `BIT 7,C` (R360). -/
  | bit_7_C
  /-- `BIT 7,D` (R360). -/
  | bit_7_D
  /-- `BIT 7,E` (R360). -/
  | bit_7_E
  /-- `BIT 7,H` (R360). -/
  | bit_7_H
  /-- `BIT 7,L` (R360). -/
  | bit_7_L
  /-- `BIT 7,(HL)` (R361). -/
  | bit_7_atHL
  /-- `BIT 7,A` (R360). -/
  | bit_7_A
  /-- `RES 0,B` (R362). -/
  | res_0_B
  /-- `RES 0,C` (R362). -/
  | res_0_C
  /-- `RES 0,D` (R362). -/
  | res_0_D
  /-- `RES 0,E` (R362). -/
  | res_0_E
  /-- `RES 0,H` (R362). -/
  | res_0_H
  /-- `RES 0,L` (R362). -/
  | res_0_L
  /-- `RES 0,(HL)` (R363). -/
  | res_0_atHL
  /-- `RES 0,A` (R362). -/
  | res_0_A
  /-- `RES 1,B` (R362). -/
  | res_1_B
  /-- `RES 1,C` (R362). -/
  | res_1_C
  /-- `RES 1,D` (R362). -/
  | res_1_D
  /-- `RES 1,E` (R362). -/
  | res_1_E
  /-- `RES 1,H` (R362). -/
  | res_1_H
  /-- `RES 1,L` (R362). -/
  | res_1_L
  /-- `RES 1,(HL)` (R363). -/
  | res_1_atHL
  /-- `RES 1,A` (R362). -/
  | res_1_A
  /-- `RES 2,B` (R362). -/
  | res_2_B
  /-- `RES 2,C` (R362). -/
  | res_2_C
  /-- `RES 2,D` (R362). -/
  | res_2_D
  /-- `RES 2,E` (R362). -/
  | res_2_E
  /-- `RES 2,H` (R362). -/
  | res_2_H
  /-- `RES 2,L` (R362). -/
  | res_2_L
  /-- `RES 2,(HL)` (R363). -/
  | res_2_atHL
  /-- `RES 2,A` (R362). -/
  | res_2_A
  /-- `RES 3,B` (R362). -/
  | res_3_B
  /-- `RES 3,C` (R362). -/
  | res_3_C
  /-- `RES 3,D` (R362). -/
  | res_3_D
  /-- `RES 3,E` (R362). -/
  | res_3_E
  /-- `RES 3,H` (R362). -/
  | res_3_H
  /-- `RES 3,L` (R362). -/
  | res_3_L
  /-- `RES 3,(HL)` (R363). -/
  | res_3_atHL
  /-- `RES 3,A` (R362). -/
  | res_3_A
  /-- `RES 4,B` (R362). -/
  | res_4_B
  /-- `RES 4,C` (R362). -/
  | res_4_C
  /-- `RES 4,D` (R362). -/
  | res_4_D
  /-- `RES 4,E` (R362). -/
  | res_4_E
  /-- `RES 4,H` (R362). -/
  | res_4_H
  /-- `RES 4,L` (R362). -/
  | res_4_L
  /-- `RES 4,(HL)` (R363). -/
  | res_4_atHL
  /-- `RES 4,A` (R362). -/
  | res_4_A
  /-- `RES 5,B` (R362). -/
  | res_5_B
  /-- `RES 5,C` (R362). -/
  | res_5_C
  /-- `RES 5,D` (R362). -/
  | res_5_D
  /-- `RES 5,E` (R362). -/
  | res_5_E
  /-- `RES 5,H` (R362). -/
  | res_5_H
  /-- `RES 5,L` (R362). -/
  | res_5_L
  /-- `RES 5,(HL)` (R363). -/
  | res_5_atHL
  /-- `RES 5,A` (R362). -/
  | res_5_A
  /-- `RES 6,B` (R362). -/
  | res_6_B
  /-- `RES 6,C` (R362). -/
  | res_6_C
  /-- `RES 6,D` (R362). -/
  | res_6_D
  /-- `RES 6,E` (R362). -/
  | res_6_E
  /-- `RES 6,H` (R362). -/
  | res_6_H
  /-- `RES 6,L` (R362). -/
  | res_6_L
  /-- `RES 6,(HL)` (R363). -/
  | res_6_atHL
  /-- `RES 6,A` (R362). -/
  | res_6_A
  /-- `RES 7,B` (R362). -/
  | res_7_B
  /-- `RES 7,C` (R362). -/
  | res_7_C
  /-- `RES 7,D` (R362). -/
  | res_7_D
  /-- `RES 7,E` (R362). -/
  | res_7_E
  /-- `RES 7,H` (R362). -/
  | res_7_H
  /-- `RES 7,L` (R362). -/
  | res_7_L
  /-- `RES 7,(HL)` (R363). -/
  | res_7_atHL
  /-- `RES 7,A` (R362). -/
  | res_7_A
  /-- `SET 0,B` (R364). -/
  | set_0_B
  /-- `SET 0,C` (R364). -/
  | set_0_C
  /-- `SET 0,D` (R364). -/
  | set_0_D
  /-- `SET 0,E` (R364). -/
  | set_0_E
  /-- `SET 0,H` (R364). -/
  | set_0_H
  /-- `SET 0,L` (R364). -/
  | set_0_L
  /-- `SET 0,(HL)` (R365). -/
  | set_0_atHL
  /-- `SET 0,A` (R364). -/
  | set_0_A
  /-- `SET 1,B` (R364). -/
  | set_1_B
  /-- `SET 1,C` (R364). -/
  | set_1_C
  /-- `SET 1,D` (R364). -/
  | set_1_D
  /-- `SET 1,E` (R364). -/
  | set_1_E
  /-- `SET 1,H` (R364). -/
  | set_1_H
  /-- `SET 1,L` (R364). -/
  | set_1_L
  /-- `SET 1,(HL)` (R365). -/
  | set_1_atHL
  /-- `SET 1,A` (R364). -/
  | set_1_A
  /-- `SET 2,B` (R364). -/
  | set_2_B
  /-- `SET 2,C` (R364). -/
  | set_2_C
  /-- `SET 2,D` (R364). -/
  | set_2_D
  /-- `SET 2,E` (R364). -/
  | set_2_E
  /-- `SET 2,H` (R364). -/
  | set_2_H
  /-- `SET 2,L` (R364). -/
  | set_2_L
  /-- `SET 2,(HL)` (R365). -/
  | set_2_atHL
  /-- `SET 2,A` (R364). -/
  | set_2_A
  /-- `SET 3,B` (R364). -/
  | set_3_B
  /-- `SET 3,C` (R364). -/
  | set_3_C
  /-- `SET 3,D` (R364). -/
  | set_3_D
  /-- `SET 3,E` (R364). -/
  | set_3_E
  /-- `SET 3,H` (R364). -/
  | set_3_H
  /-- `SET 3,L` (R364). -/
  | set_3_L
  /-- `SET 3,(HL)` (R365). -/
  | set_3_atHL
  /-- `SET 3,A` (R364). -/
  | set_3_A
  /-- `SET 4,B` (R364). -/
  | set_4_B
  /-- `SET 4,C` (R364). -/
  | set_4_C
  /-- `SET 4,D` (R364). -/
  | set_4_D
  /-- `SET 4,E` (R364). -/
  | set_4_E
  /-- `SET 4,H` (R364). -/
  | set_4_H
  /-- `SET 4,L` (R364). -/
  | set_4_L
  /-- `SET 4,(HL)` (R365). -/
  | set_4_atHL
  /-- `SET 4,A` (R364). -/
  | set_4_A
  /-- `SET 5,B` (R364). -/
  | set_5_B
  /-- `SET 5,C` (R364). -/
  | set_5_C
  /-- `SET 5,D` (R364). -/
  | set_5_D
  /-- `SET 5,E` (R364). -/
  | set_5_E
  /-- `SET 5,H` (R364). -/
  | set_5_H
  /-- `SET 5,L` (R364). -/
  | set_5_L
  /-- `SET 5,(HL)` (R365). -/
  | set_5_atHL
  /-- `SET 5,A` (R364). -/
  | set_5_A
  /-- `SET 6,B` (R364). -/
  | set_6_B
  /-- `SET 6,C` (R364). -/
  | set_6_C
  /-- `SET 6,D` (R364). -/
  | set_6_D
  /-- `SET 6,E` (R364). -/
  | set_6_E
  /-- `SET 6,H` (R364). -/
  | set_6_H
  /-- `SET 6,L` (R364). -/
  | set_6_L
  /-- `SET 6,(HL)` (R365). -/
  | set_6_atHL
  /-- `SET 6,A` (R364). -/
  | set_6_A
  /-- `SET 7,B` (R364). -/
  | set_7_B
  /-- `SET 7,C` (R364). -/
  | set_7_C
  /-- `SET 7,D` (R364). -/
  | set_7_D
  /-- `SET 7,E` (R364). -/
  | set_7_E
  /-- `SET 7,H` (R364). -/
  | set_7_H
  /-- `SET 7,L` (R364). -/
  | set_7_L
  /-- `SET 7,(HL)` (R365). -/
  | set_7_atHL
  /-- `SET 7,A` (R364). -/
  | set_7_A
  deriving DecidableEq, Repr

namespace Instr

/-- `LD r,r'` (R201). -/
def ldRR : OpReg → OpReg → Instr
  | .b, .b => .ld_B_B
  | .b, .c => .ld_B_C
  | .b, .d => .ld_B_D
  | .b, .e => .ld_B_E
  | .b, .h => .ld_B_H
  | .b, .l => .ld_B_L
  | .b, .a => .ld_B_A
  | .c, .b => .ld_C_B
  | .c, .c => .ld_C_C
  | .c, .d => .ld_C_D
  | .c, .e => .ld_C_E
  | .c, .h => .ld_C_H
  | .c, .l => .ld_C_L
  | .c, .a => .ld_C_A
  | .d, .b => .ld_D_B
  | .d, .c => .ld_D_C
  | .d, .d => .ld_D_D
  | .d, .e => .ld_D_E
  | .d, .h => .ld_D_H
  | .d, .l => .ld_D_L
  | .d, .a => .ld_D_A
  | .e, .b => .ld_E_B
  | .e, .c => .ld_E_C
  | .e, .d => .ld_E_D
  | .e, .e => .ld_E_E
  | .e, .h => .ld_E_H
  | .e, .l => .ld_E_L
  | .e, .a => .ld_E_A
  | .h, .b => .ld_H_B
  | .h, .c => .ld_H_C
  | .h, .d => .ld_H_D
  | .h, .e => .ld_H_E
  | .h, .h => .ld_H_H
  | .h, .l => .ld_H_L
  | .h, .a => .ld_H_A
  | .l, .b => .ld_L_B
  | .l, .c => .ld_L_C
  | .l, .d => .ld_L_D
  | .l, .e => .ld_L_E
  | .l, .h => .ld_L_H
  | .l, .l => .ld_L_L
  | .l, .a => .ld_L_A
  | .a, .b => .ld_A_B
  | .a, .c => .ld_A_C
  | .a, .d => .ld_A_D
  | .a, .e => .ld_A_E
  | .a, .h => .ld_A_H
  | .a, .l => .ld_A_L
  | .a, .a => .ld_A_A

/-- `LD r,n` (R202). -/
def ldRN : OpReg → Byte → Instr
  | .b, n => .ld_B_n n
  | .c, n => .ld_C_n n
  | .d, n => .ld_D_n n
  | .e, n => .ld_E_n n
  | .h, n => .ld_H_n n
  | .l, n => .ld_L_n n
  | .a, n => .ld_A_n n

/-- `LD r,(HL)` (R203). -/
def ldRAtHL : OpReg → Instr
  | .b => .ld_B_atHL
  | .c => .ld_C_atHL
  | .d => .ld_D_atHL
  | .e => .ld_E_atHL
  | .h => .ld_H_atHL
  | .l => .ld_L_atHL
  | .a => .ld_A_atHL

/-- `LD (HL),r` (R204). -/
def ldAtHLR : OpReg → Instr
  | .b => .ld_atHL_B
  | .c => .ld_atHL_C
  | .d => .ld_atHL_D
  | .e => .ld_atHL_E
  | .h => .ld_atHL_H
  | .l => .ld_atHL_L
  | .a => .ld_atHL_A

/-- `LD rr,nn` (R220). -/
def ldRRNN : PairRR → Word → Instr
  | .bc, nn => .ld_BC_nn nn
  | .de, nn => .ld_DE_nn nn
  | .hl, nn => .ld_HL_nn nn
  | .sp, nn => .ld_SP_nn nn

/-- `PUSH qq` (R224). -/
def pushQQ : PairQQ → Instr
  | .bc => .push_BC
  | .de => .push_DE
  | .hl => .push_HL
  | .af => .push_AF

/-- `POP qq` (R225). -/
def popQQ : PairQQ → Instr
  | .bc => .pop_BC
  | .de => .pop_DE
  | .hl => .pop_HL
  | .af => .pop_AF

/-- The ALU operations on a register: R251, R254, R257, R260, R263, R266, R269, R272. -/
def aluR : AluOp → OpReg → Instr
  | .add, .b => .add_A_B
  | .add, .c => .add_A_C
  | .add, .d => .add_A_D
  | .add, .e => .add_A_E
  | .add, .h => .add_A_H
  | .add, .l => .add_A_L
  | .add, .a => .add_A_A
  | .adc, .b => .adc_A_B
  | .adc, .c => .adc_A_C
  | .adc, .d => .adc_A_D
  | .adc, .e => .adc_A_E
  | .adc, .h => .adc_A_H
  | .adc, .l => .adc_A_L
  | .adc, .a => .adc_A_A
  | .sub, .b => .sub_B
  | .sub, .c => .sub_C
  | .sub, .d => .sub_D
  | .sub, .e => .sub_E
  | .sub, .h => .sub_H
  | .sub, .l => .sub_L
  | .sub, .a => .sub_A
  | .sbc, .b => .sbc_A_B
  | .sbc, .c => .sbc_A_C
  | .sbc, .d => .sbc_A_D
  | .sbc, .e => .sbc_A_E
  | .sbc, .h => .sbc_A_H
  | .sbc, .l => .sbc_A_L
  | .sbc, .a => .sbc_A_A
  | .and, .b => .and_B
  | .and, .c => .and_C
  | .and, .d => .and_D
  | .and, .e => .and_E
  | .and, .h => .and_H
  | .and, .l => .and_L
  | .and, .a => .and_A
  | .xor, .b => .xor_B
  | .xor, .c => .xor_C
  | .xor, .d => .xor_D
  | .xor, .e => .xor_E
  | .xor, .h => .xor_H
  | .xor, .l => .xor_L
  | .xor, .a => .xor_A
  | .or, .b => .or_B
  | .or, .c => .or_C
  | .or, .d => .or_D
  | .or, .e => .or_E
  | .or, .h => .or_H
  | .or, .l => .or_L
  | .or, .a => .or_A
  | .cp, .b => .cp_B
  | .cp, .c => .cp_C
  | .cp, .d => .cp_D
  | .cp, .e => .cp_E
  | .cp, .h => .cp_H
  | .cp, .l => .cp_L
  | .cp, .a => .cp_A

/-- The ALU operations on `(HL)`: R252, R255, R258, R261, R264, R267, R270, R273. -/
def aluAtHL : AluOp → Instr
  | .add => .add_A_atHL
  | .adc => .adc_A_atHL
  | .sub => .sub_atHL
  | .sbc => .sbc_A_atHL
  | .and => .and_atHL
  | .xor => .xor_atHL
  | .or => .or_atHL
  | .cp => .cp_atHL

/-- The ALU operations on an immediate: R253, R256, R259, R262, R265, R268, R271, R274. -/
def aluN : AluOp → Byte → Instr
  | .add, n => .add_A_n n
  | .adc, n => .adc_A_n n
  | .sub, n => .sub_n n
  | .sbc, n => .sbc_A_n n
  | .and, n => .and_n n
  | .xor, n => .xor_n n
  | .or, n => .or_n n
  | .cp, n => .cp_n n

/-- `INC r` (R275). -/
def incR : OpReg → Instr
  | .b => .inc_B
  | .c => .inc_C
  | .d => .inc_D
  | .e => .inc_E
  | .h => .inc_H
  | .l => .inc_L
  | .a => .inc_A

/-- `DEC r` (R277). -/
def decR : OpReg → Instr
  | .b => .dec_B
  | .c => .dec_C
  | .d => .dec_D
  | .e => .dec_E
  | .h => .dec_H
  | .l => .dec_L
  | .a => .dec_A

/-- `ADD HL,rr` (R300). -/
def addHLRR : PairRR → Instr
  | .bc => .add_HL_BC
  | .de => .add_HL_DE
  | .hl => .add_HL_HL
  | .sp => .add_HL_SP

/-- `INC rr` (R302). -/
def incRR : PairRR → Instr
  | .bc => .inc_BC
  | .de => .inc_DE
  | .hl => .inc_HL
  | .sp => .inc_SP

/-- `DEC rr` (R303). -/
def decRR : PairRR → Instr
  | .bc => .dec_BC
  | .de => .dec_DE
  | .hl => .dec_HL
  | .sp => .dec_SP

/-- The extended rotates and shifts on a register: R324, R326, R328, R330, R332, R334, R336, R338. -/
def rotR : RotOp → OpReg → Instr
  | .rlc, .b => .rlc_B
  | .rlc, .c => .rlc_C
  | .rlc, .d => .rlc_D
  | .rlc, .e => .rlc_E
  | .rlc, .h => .rlc_H
  | .rlc, .l => .rlc_L
  | .rlc, .a => .rlc_A
  | .rrc, .b => .rrc_B
  | .rrc, .c => .rrc_C
  | .rrc, .d => .rrc_D
  | .rrc, .e => .rrc_E
  | .rrc, .h => .rrc_H
  | .rrc, .l => .rrc_L
  | .rrc, .a => .rrc_A
  | .rl, .b => .rl_B
  | .rl, .c => .rl_C
  | .rl, .d => .rl_D
  | .rl, .e => .rl_E
  | .rl, .h => .rl_H
  | .rl, .l => .rl_L
  | .rl, .a => .rl_A
  | .rr, .b => .rr_B
  | .rr, .c => .rr_C
  | .rr, .d => .rr_D
  | .rr, .e => .rr_E
  | .rr, .h => .rr_H
  | .rr, .l => .rr_L
  | .rr, .a => .rr_A
  | .sla, .b => .sla_B
  | .sla, .c => .sla_C
  | .sla, .d => .sla_D
  | .sla, .e => .sla_E
  | .sla, .h => .sla_H
  | .sla, .l => .sla_L
  | .sla, .a => .sla_A
  | .sra, .b => .sra_B
  | .sra, .c => .sra_C
  | .sra, .d => .sra_D
  | .sra, .e => .sra_E
  | .sra, .h => .sra_H
  | .sra, .l => .sra_L
  | .sra, .a => .sra_A
  | .swap, .b => .swap_B
  | .swap, .c => .swap_C
  | .swap, .d => .swap_D
  | .swap, .e => .swap_E
  | .swap, .h => .swap_H
  | .swap, .l => .swap_L
  | .swap, .a => .swap_A
  | .srl, .b => .srl_B
  | .srl, .c => .srl_C
  | .srl, .d => .srl_D
  | .srl, .e => .srl_E
  | .srl, .h => .srl_H
  | .srl, .l => .srl_L
  | .srl, .a => .srl_A

/-- The extended rotates and shifts on `(HL)`: R325, R327, R329, R331, R333, R335, R337, R339. -/
def rotAtHL : RotOp → Instr
  | .rlc => .rlc_atHL
  | .rrc => .rrc_atHL
  | .rl => .rl_atHL
  | .rr => .rr_atHL
  | .sla => .sla_atHL
  | .sra => .sra_atHL
  | .swap => .swap_atHL
  | .srl => .srl_atHL

/-- `BIT b,r` (R360). -/
def bitR : Fin 8 → OpReg → Instr
  | 0, .b => .bit_0_B
  | 0, .c => .bit_0_C
  | 0, .d => .bit_0_D
  | 0, .e => .bit_0_E
  | 0, .h => .bit_0_H
  | 0, .l => .bit_0_L
  | 0, .a => .bit_0_A
  | 1, .b => .bit_1_B
  | 1, .c => .bit_1_C
  | 1, .d => .bit_1_D
  | 1, .e => .bit_1_E
  | 1, .h => .bit_1_H
  | 1, .l => .bit_1_L
  | 1, .a => .bit_1_A
  | 2, .b => .bit_2_B
  | 2, .c => .bit_2_C
  | 2, .d => .bit_2_D
  | 2, .e => .bit_2_E
  | 2, .h => .bit_2_H
  | 2, .l => .bit_2_L
  | 2, .a => .bit_2_A
  | 3, .b => .bit_3_B
  | 3, .c => .bit_3_C
  | 3, .d => .bit_3_D
  | 3, .e => .bit_3_E
  | 3, .h => .bit_3_H
  | 3, .l => .bit_3_L
  | 3, .a => .bit_3_A
  | 4, .b => .bit_4_B
  | 4, .c => .bit_4_C
  | 4, .d => .bit_4_D
  | 4, .e => .bit_4_E
  | 4, .h => .bit_4_H
  | 4, .l => .bit_4_L
  | 4, .a => .bit_4_A
  | 5, .b => .bit_5_B
  | 5, .c => .bit_5_C
  | 5, .d => .bit_5_D
  | 5, .e => .bit_5_E
  | 5, .h => .bit_5_H
  | 5, .l => .bit_5_L
  | 5, .a => .bit_5_A
  | 6, .b => .bit_6_B
  | 6, .c => .bit_6_C
  | 6, .d => .bit_6_D
  | 6, .e => .bit_6_E
  | 6, .h => .bit_6_H
  | 6, .l => .bit_6_L
  | 6, .a => .bit_6_A
  | 7, .b => .bit_7_B
  | 7, .c => .bit_7_C
  | 7, .d => .bit_7_D
  | 7, .e => .bit_7_E
  | 7, .h => .bit_7_H
  | 7, .l => .bit_7_L
  | 7, .a => .bit_7_A

/-- `BIT b,(HL)` (R361). -/
def bitAtHL : Fin 8 → Instr
  | 0 => .bit_0_atHL
  | 1 => .bit_1_atHL
  | 2 => .bit_2_atHL
  | 3 => .bit_3_atHL
  | 4 => .bit_4_atHL
  | 5 => .bit_5_atHL
  | 6 => .bit_6_atHL
  | 7 => .bit_7_atHL

/-- `RES b,r` (R362). -/
def resR : Fin 8 → OpReg → Instr
  | 0, .b => .res_0_B
  | 0, .c => .res_0_C
  | 0, .d => .res_0_D
  | 0, .e => .res_0_E
  | 0, .h => .res_0_H
  | 0, .l => .res_0_L
  | 0, .a => .res_0_A
  | 1, .b => .res_1_B
  | 1, .c => .res_1_C
  | 1, .d => .res_1_D
  | 1, .e => .res_1_E
  | 1, .h => .res_1_H
  | 1, .l => .res_1_L
  | 1, .a => .res_1_A
  | 2, .b => .res_2_B
  | 2, .c => .res_2_C
  | 2, .d => .res_2_D
  | 2, .e => .res_2_E
  | 2, .h => .res_2_H
  | 2, .l => .res_2_L
  | 2, .a => .res_2_A
  | 3, .b => .res_3_B
  | 3, .c => .res_3_C
  | 3, .d => .res_3_D
  | 3, .e => .res_3_E
  | 3, .h => .res_3_H
  | 3, .l => .res_3_L
  | 3, .a => .res_3_A
  | 4, .b => .res_4_B
  | 4, .c => .res_4_C
  | 4, .d => .res_4_D
  | 4, .e => .res_4_E
  | 4, .h => .res_4_H
  | 4, .l => .res_4_L
  | 4, .a => .res_4_A
  | 5, .b => .res_5_B
  | 5, .c => .res_5_C
  | 5, .d => .res_5_D
  | 5, .e => .res_5_E
  | 5, .h => .res_5_H
  | 5, .l => .res_5_L
  | 5, .a => .res_5_A
  | 6, .b => .res_6_B
  | 6, .c => .res_6_C
  | 6, .d => .res_6_D
  | 6, .e => .res_6_E
  | 6, .h => .res_6_H
  | 6, .l => .res_6_L
  | 6, .a => .res_6_A
  | 7, .b => .res_7_B
  | 7, .c => .res_7_C
  | 7, .d => .res_7_D
  | 7, .e => .res_7_E
  | 7, .h => .res_7_H
  | 7, .l => .res_7_L
  | 7, .a => .res_7_A

/-- `RES b,(HL)` (R363). -/
def resAtHL : Fin 8 → Instr
  | 0 => .res_0_atHL
  | 1 => .res_1_atHL
  | 2 => .res_2_atHL
  | 3 => .res_3_atHL
  | 4 => .res_4_atHL
  | 5 => .res_5_atHL
  | 6 => .res_6_atHL
  | 7 => .res_7_atHL

/-- `SET b,r` (R364). -/
def setR : Fin 8 → OpReg → Instr
  | 0, .b => .set_0_B
  | 0, .c => .set_0_C
  | 0, .d => .set_0_D
  | 0, .e => .set_0_E
  | 0, .h => .set_0_H
  | 0, .l => .set_0_L
  | 0, .a => .set_0_A
  | 1, .b => .set_1_B
  | 1, .c => .set_1_C
  | 1, .d => .set_1_D
  | 1, .e => .set_1_E
  | 1, .h => .set_1_H
  | 1, .l => .set_1_L
  | 1, .a => .set_1_A
  | 2, .b => .set_2_B
  | 2, .c => .set_2_C
  | 2, .d => .set_2_D
  | 2, .e => .set_2_E
  | 2, .h => .set_2_H
  | 2, .l => .set_2_L
  | 2, .a => .set_2_A
  | 3, .b => .set_3_B
  | 3, .c => .set_3_C
  | 3, .d => .set_3_D
  | 3, .e => .set_3_E
  | 3, .h => .set_3_H
  | 3, .l => .set_3_L
  | 3, .a => .set_3_A
  | 4, .b => .set_4_B
  | 4, .c => .set_4_C
  | 4, .d => .set_4_D
  | 4, .e => .set_4_E
  | 4, .h => .set_4_H
  | 4, .l => .set_4_L
  | 4, .a => .set_4_A
  | 5, .b => .set_5_B
  | 5, .c => .set_5_C
  | 5, .d => .set_5_D
  | 5, .e => .set_5_E
  | 5, .h => .set_5_H
  | 5, .l => .set_5_L
  | 5, .a => .set_5_A
  | 6, .b => .set_6_B
  | 6, .c => .set_6_C
  | 6, .d => .set_6_D
  | 6, .e => .set_6_E
  | 6, .h => .set_6_H
  | 6, .l => .set_6_L
  | 6, .a => .set_6_A
  | 7, .b => .set_7_B
  | 7, .c => .set_7_C
  | 7, .d => .set_7_D
  | 7, .e => .set_7_E
  | 7, .h => .set_7_H
  | 7, .l => .set_7_L
  | 7, .a => .set_7_A

/-- `SET b,(HL)` (R365). -/
def setAtHL : Fin 8 → Instr
  | 0 => .set_0_atHL
  | 1 => .set_1_atHL
  | 2 => .set_2_atHL
  | 3 => .set_3_atHL
  | 4 => .set_4_atHL
  | 5 => .set_5_atHL
  | 6 => .set_6_atHL
  | 7 => .set_7_atHL

/-- `JP cc,nn` (R381). -/
def jpCC : Cond → Word → Instr
  | .nz, nn => .jp_NZ_nn nn
  | .z, nn => .jp_Z_nn nn
  | .nc, nn => .jp_NC_nn nn
  | .c, nn => .jp_C_nn nn

/-- `JR cc,e` (R384). -/
def jrCC : Cond → Byte → Instr
  | .nz, e => .jr_NZ_e e
  | .z, e => .jr_Z_e e
  | .nc, e => .jr_NC_e e
  | .c, e => .jr_C_e e

/-- `CALL cc,nn` (R386). -/
def callCC : Cond → Word → Instr
  | .nz, nn => .call_NZ_nn nn
  | .z, nn => .call_Z_nn nn
  | .nc, nn => .call_NC_nn nn
  | .c, nn => .call_C_nn nn

/-- `RET cc` (R388). -/
def retCC : Cond → Instr
  | .nz => .ret_NZ
  | .z => .ret_Z
  | .nc => .ret_NC
  | .c => .ret_C

/-- `RST t` (R390). -/
def rstT : Fin 8 → Instr
  | 0 => .rst_00h
  | 1 => .rst_08h
  | 2 => .rst_10h
  | 3 => .rst_18h
  | 4 => .rst_20h
  | 5 => .rst_28h
  | 6 => .rst_30h
  | 7 => .rst_38h

/-- The eleven unpopulated base slots of R158, each with its opcode byte. -/
def unpopulatedSlots : List (Byte × Instr) :=
  [(0xD3#8, .unpopulated_D3),
   (0xDB#8, .unpopulated_DB),
   (0xDD#8, .unpopulated_DD),
   (0xE3#8, .unpopulated_E3),
   (0xE4#8, .unpopulated_E4),
   (0xEB#8, .unpopulated_EB),
   (0xEC#8, .unpopulated_EC),
   (0xED#8, .unpopulated_ED),
   (0xF4#8, .unpopulated_F4),
   (0xFC#8, .unpopulated_FC),
   (0xFD#8, .unpopulated_FD)]

end Instr

end Sys2Proof
end

