-- ==== Sys2Proof/WellFormed.lean ====
section
/-! DEFINITION. Which rows of the opcode table are instructions: the 500 of R154-R159. The types of the operands
already bound every operand (a byte, a word), so the two checks are about the rows that are no instruction. -/

namespace Sys2Proof

/-- The escape 0xCB "holds no instruction" (R156). -/
def Instr.isEscape : Instr → Bool
  | .prefixCB => true
  | _ => false

/-- The eleven unpopulated base slots (R158). -/
def Instr.isUnpopulated (i : Instr) : Bool :=
  Instr.unpopulatedSlots.any fun slot => decide (slot.2 = i)

/-- The row is an instruction: neither the escape (R156) nor an unpopulated slot (R158). -/
def Instr.wellFormed (i : Instr) : Bool :=
  !i.isEscape && !i.isUnpopulated

end Sys2Proof
end

