-- ==== Sys2Proof/Config.lean ====
section
/-! DEFINITION. The parameters of R7: the constants of the machine, the switches a launch sets, and the legal
clock divisors of R480. A machine's switches are held in its State (field `cfg`, notes/assumptions/2.md) and no
step changes them, so a statement about every state holds under every setting. The spec leaves no result of an
instruction undefined, so there is no free value. -/

namespace Sys2Proof

/-- The switch `BUSY_AFTER` of R7, R169: what cycles-remaining is after an instruction of N clock units. -/
inductive BusyAfter where
  /-- `N - 1`, the default: the instruction occupies exactly N engine ticks. -/
  | nMinusOne
  /-- `N`, the alternative: it occupies N + 1. -/
  | n
  deriving DecidableEq, Repr

/-- The switch `F_LOW_MODE` of R7, R40: what a direct write of F does to its bits 3..0. -/
inductive FLowMode where
  /-- All eight bits are stored, the default. -/
  | asWritten
  /-- Bits 3..0 are stored as 0. -/
  | zero
  deriving DecidableEq, Repr

/-- The switches of R7 that a launch fixes. -/
structure Config where
  busyAfter : BusyAfter
  fLowMode : FLowMode
  /-- `IRQ_DISPATCH`: whether the interrupt dispatch of R472 is in the machine (R477 where it is not). -/
  irqDispatch : Bool
  deriving DecidableEq, Repr

/-- The defaults of R7. -/
def Config.default : Config :=
  { busyAfter := .nMinusOne, fLowMode := .asWritten, irqDispatch := true }

/-- `CLOCK_UNIT` of R7: T-cycles in one engine tick. -/
def Config.clockUnit : Nat := 4

/-- `CPU_DIVISOR` of R7, R481: the Instruction Engine's clock divisor. -/
def Config.cpuDivisor : Nat := 4

/-- `SUBCYCLES` of R7: sub-cycles in one macro-step. -/
def Config.subcycles : Nat := 4

/-- `BUS_SIZE` of R7, R101. -/
def Config.busSize : Nat := 65536

/-- The clock divisors R480 allows. No other divisor can be written down, so a configuration with one is refused
where it is built (R480, notes/assumptions/10.md). -/
inductive Divisor where
  | one
  | two
  | four
  deriving DecidableEq, Repr

/-- The divisor as the number of R484's test. -/
def Divisor.toNat : Divisor → Nat
  | .one => 1
  | .two => 2
  | .four => 4

/-- A launch's check of a divisor (R480): any number but 1, 2 and 4 is refused. -/
def Divisor.ofNat? : Nat → Option Divisor
  | 1 => some .one
  | 2 => some .two
  | 4 => some .four
  | _ => none

end Sys2Proof
end

