-- ==== Sys2Proof/Machine/State.lean ====
section
/-! DEFINITION. Everything the spec gives the machine, as plain data: the Register File and the engine's latches, mode
and fault record, the bus, the Clock Scheduler with its units, and the launch's switches; and the machine right after
reset (R52, R53, R531). -/

namespace Sys2Proof.Machine

/-- The kinds of the engine's faults (R12, R49). The machine never stops on one: the engine records it and enters
Faulted, the scheduler reports it and goes on (R450, R488), so that no step of this model answers `Outcome.fault` with
either kind (notes/assumptions/4.md). -/
inductive Fault where
  /-- Raised when the fetched opcode has no table entry (R451), by the meanings of the unpopulated slots and by the
  fetch. Safe: the spec's own fault, taken as the spec describes it. -/
  | invalidOpcode
  /-- Raised by the fetch when an operand count differs from the declared length (R452). Safe: unreachable with the
  tables of R157 and R159. -/
  | malformedOperandFetch
  deriving DecidableEq, Repr

/-- Why an instruction has no meaning. -/
inductive Refusal where
  /-- Raised by `exec` for a row that has no meaning yet. Safe: nothing is claimed of it. No row is refused. -/
  | notModelled (mnemonic : String)
  deriving DecidableEq, Repr

/-- The engine's mode (R45). -/
inductive Mode where
  | running
  /-- After HALT (R46). -/
  | halted
  /-- After STOP (R48). -/
  | stopped
  /-- After a fault (R450). -/
  | faulted (kind : Fault)
  deriving DecidableEq, Repr

/-- The fault record (R49): the kind, the address the faulting instruction was fetched from, its opcode bytes. -/
structure FaultRecord where
  kind : Fault
  pc : Word
  bytes : List Byte
  deriving DecidableEq, Repr

/-- The eight 8-bit registers (R30). -/
structure Regs where
  a : Byte
  f : Byte
  b : Byte
  c : Byte
  d : Byte
  e : Byte
  h : Byte
  l : Byte
  deriving DecidableEq, Repr

/-- The bus's bytes (R101, R102): address and byte, addresses strictly rising, no entry equal to what an unlisted
address reads as (Machine/Memory.lean). -/
structure Memory where
  cells : List Host.Cell
  deriving DecidableEq, Repr

/-- One byte access another unit makes on the bus (R110, R482). -/
inductive Access where
  | read (addr : Word)
  | write (addr : Word) (value : Byte)
  deriving DecidableEq, Repr

/-- The bus as the engine finds it: its bytes, and the accesses of other units that fall before the engine's next
access, before the one after, and so on, in this sub-cycle (R115 b). Between sub-cycles no access is outstanding. -/
structure Bus where
  mem : Memory
  gaps : List (List Access)
  deriving DecidableEq, Repr

/-- A unit of the scheduler (R480): the Instruction Engine, or a placeholder by its place in the unit list. -/
inductive UnitId where
  | engine
  | placeholder (index : Nat)
  deriving DecidableEq, Repr

/-- A placeholder unit (R482): its divisor, and the accesses its coming ticks make, one list a tick. A tick beyond the
list makes no access. -/
structure Placeholder where
  divisor : Divisor
  work : List (List Access)
  deriving DecidableEq, Repr

/-- A fault report to the observer (R488). -/
structure Report where
  source : UnitId
  record : FaultRecord
  deriving DecidableEq, Repr

/-- The Clock Scheduler (R50, R483): the two counters, the excluded units, the reports made, the placeholder units,
and, for each coming sub-cycle, the interleaving of the dispatched ticks' accesses (the choice R115 b leaves open;
notes/assumptions/7.md). -/
structure Sched where
  sub : Fin 4
  macroStep : Nat
  excluded : List UnitId
  reports : List Report
  placeholders : List Placeholder
  orders : List (List UnitId)
  deriving DecidableEq, Repr

/-- The machine. -/
structure State where
  regs : Regs
  pc : Word
  sp : Word
  /-- Interrupt master enable (R43). -/
  ime : Bool
  /-- An EI has executed and IME is still to be set (R44). -/
  eiPending : Bool
  /-- The next fetch reads its first byte twice (R47). -/
  haltBug : Bool
  mode : Mode
  /-- The cycle debt in engine ticks (R45). -/
  cyclesRemaining : Nat
  fault : Option FaultRecord
  bus : Bus
  sched : Sched
  /-- The launch's switches (R7); no step changes them. -/
  cfg : Config
  deriving DecidableEq, Repr

/-- The Register File at engine construction (R52). -/
def Regs.zero : Regs :=
  { a := 0x00#8, f := 0x00#8, b := 0x00#8, c := 0x00#8, d := 0x00#8, e := 0x00#8, h := 0x00#8, l := 0x00#8 }

/-- The default placeholders of R7 and R482: graphics with divisor 1 and audio with divisor 4, neither of which makes
a bus access. -/
def Placeholder.defaults : List Placeholder :=
  [{ divisor := .one, work := [] }, { divisor := .four, work := [] }]

/-- The scheduler before the first sub-cycle (R53, R530). -/
def Sched.initial (placeholders : List Placeholder) (orders : List (List UnitId)) : Sched :=
  { sub := 0, macroStep := 0, excluded := [], reports := [], placeholders := placeholders, orders := orders }

/-- The machine right after reset (R52, R53, R531) under the defaults of R7, with no boot image. The memory's contents
are a launch argument of the spec; here nothing is listed (notes/assumptions/1.md). -/
def State.reset : State :=
  { regs := Regs.zero
    pc := 0x0000#16
    sp := 0x0000#16
    ime := false
    eiPending := false
    haltBug := false
    mode := .running
    cyclesRemaining := 0
    fault := none
    bus := { mem := { cells := [] }, gaps := [] }
    sched := Sched.initial Placeholder.defaults []
    cfg := Config.default }

end Sys2Proof.Machine
end

