-- ==== Sys2Proof/Machine/Memory.lean ====
section
/-! DEFINITION. The bus's bytes as one canonical list (R101, R102): reading, writing and the boot image's bulk write
(R113), and the bus accesses of the engine among those of the other units (R111, R115). -/

namespace Sys2Proof.Machine

/-- What an address the list does not name reads as. The spec leaves the launch memory open (R121); this byte only
fixes how an image is written down (notes/assumptions/1.md). -/
def Memory.unlisted : Byte := 0x00#8

/-- The byte a list of cells holds at an address. -/
def Memory.lookup : List Host.Cell → Nat → Byte
  | [], _ => Memory.unlisted
  | (k, v) :: rest, a => if a = k then v else Memory.lookup rest a

/-- The list with the byte at an address replaced, in canonical form again. -/
def Memory.insert : List Host.Cell → Nat → Byte → List Host.Cell
  | [], a, v => if v = Memory.unlisted then [] else [(a, v)]
  | (k, w) :: rest, a, v =>
    if a < k then
      if v = Memory.unlisted then (k, w) :: rest else (a, v) :: (k, w) :: rest
    else if a = k then
      if v = Memory.unlisted then rest else (a, v) :: rest
    else (k, w) :: Memory.insert rest a v

/-- Every address is at least `low` and below `BUS_SIZE`, addresses rise strictly, and no byte is the unlisted one. -/
def Memory.canonical (low : Nat) : List Host.Cell → Bool
  | [] => true
  | (k, v) :: rest =>
    decide (low ≤ k) && decide (k < Config.busSize) && decide (v ≠ Memory.unlisted) && Memory.canonical (k + 1) rest

/-- The memory is in its canonical form, so that equal memories are equal lists. -/
def Memory.wf (m : Memory) : Bool := Memory.canonical 0 m.cells

/-- `read(address)` (R100, R102). Every 16-bit address is backed (R101). -/
def Memory.read (m : Memory) (a : Word) : Byte := Memory.lookup m.cells a.toNat

/-- `write(address, value)` (R100, R102): changes only the addressed byte (R103). -/
def Memory.write (m : Memory) (a : Word) (v : Byte) : Memory := { cells := Memory.insert m.cells a.toNat v }

/-- `writeRange(start, bytes)` (R113): the bytes at `start`, `start + 1`, ..., modulo 2^16. -/
def Memory.writeRange (m : Memory) (start : Word) : List Byte → Memory
  | [] => m
  | v :: rest => Memory.writeRange (m.write start v) (start + 1) rest

/-- One access of another unit takes effect: a read changes nothing (R103). -/
def Memory.apply (m : Memory) : Access → Memory
  | .read _ => m
  | .write a v => m.write a v

/-- Accesses take effect in their order. -/
def Memory.applyAll (m : Memory) (accesses : List Access) : Memory := accesses.foldl Memory.apply m

/-- The bus when the engine's next access falls due: the other units' accesses before it have been made (R115). -/
def Bus.arrive (b : Bus) : Bus :=
  match b.gaps with
  | [] => b
  | before :: later => { mem := b.mem.applyAll before, gaps := later }

/-- `MemRead(a, 1)` (R11): one bus read of the engine. -/
def Bus.read (b : Bus) (a : Word) : Byte × Bus :=
  let b' := b.arrive
  (b'.mem.read a, b')

/-- `MemWrite(a, 1, v)` (R11): one bus write of the engine. -/
def Bus.write (b : Bus) (a : Word) (v : Byte) : Bus :=
  let b' := b.arrive
  { b' with mem := b'.mem.write a v }

/-- The bus when the engine's tick has returned: the other units' accesses still outstanding have been made. -/
def Bus.drain (b : Bus) : Bus := { mem := b.gaps.foldl Memory.applyAll b.mem, gaps := [] }

end Sys2Proof.Machine
end

