-- ==== Sys2Proof/Machine/Flags.lean ====
section
/-! DEFINITION. The flags register (R38-R42) and the Register File's arithmetic and logic primitives with every flag
computation of the spec (R55-R68), each a pure function of its inputs. -/

namespace Sys2Proof.Machine

/-- The four flags (R39). -/
inductive Flag where
  | z | n | h | c
  deriving DecidableEq, Repr

/-- `pos(f)` of R39, R41: the flag's bit of F. -/
def Flag.pos : Flag → Nat
  | .z => 7
  | .n => 6
  | .h => 5
  | .c => 4

/-- `getFlag` of R41 on the byte F. -/
def flagOf (f : Byte) (flag : Flag) : Bool := f.getLsbD flag.pos

/-- `setFlag` of R41 on the byte F: one bit changes, the other seven stay. -/
def putFlag (f : Byte) (flag : Flag) (v : Bool) : Byte :=
  let bit := 1#8 <<< flag.pos
  if v then f ||| bit else f &&& ~~~bit

/-- What a bulk flag write names (R41); `none` is a flag it does not name. -/
structure FlagWrite where
  z : Option Bool := none
  n : Option Bool := none
  h : Option Bool := none
  c : Option Bool := none
  deriving DecidableEq, Repr

/-- `setFlag` where the write names the flag. -/
def putFlag? (f : Byte) (flag : Flag) : Option Bool → Byte
  | none => f
  | some v => putFlag f flag v

/-- The bulk setter of R41: the named flags change, every other bit of F stays, bits 3..0 among them (R40). -/
def writeFlags (f : Byte) (w : FlagWrite) : Byte :=
  putFlag? (putFlag? (putFlag? (putFlag? f .z w.z) .n w.n) .h w.h) .c w.c

/-- What an 8-bit helper returns: the result and the flags it reports. -/
structure AluOut where
  res : Byte
  z : Bool
  h : Bool
  c : Bool
  deriving DecidableEq, Repr

/-- What a 16-bit helper returns. -/
structure Alu16Out where
  res : Word
  h : Bool
  c : Bool
  deriving DecidableEq, Repr

/-- What a rotate or shift helper returns: the result and the bit shifted out. -/
structure ShiftOut where
  res : Byte
  cout : Bool
  deriving DecidableEq, Repr

/-- `v & 0x0F` as a number. -/
def lowNibble (v : Byte) : Nat := (v &&& 0x0F#8).toNat

/-- `z` of every helper: the result is zero. -/
def isZero (v : Byte) : Bool := decide (v = 0x00#8)

/-- `Add8` (R55), in one pass over the three inputs. -/
def add8 (a b : Byte) (cin : Bool) : AluOut :=
  let s := a.toNat + b.toNat + cin.toNat
  let res := BitVec.ofNat 8 s
  { res := res
    z := isZero res
    h := decide (lowNibble a + lowNibble b + cin.toNat > 0x0F)
    c := decide (s > 0xFF) }

/-- `Sub8` (R56), in one pass; half-carry and carry are borrows. -/
def sub8 (a b : Byte) (cin : Bool) : AluOut :=
  let d : Int := (a.toNat : Int) - (b.toNat : Int) - (cin.toNat : Int)
  let res := BitVec.ofInt 8 d
  { res := res
    z := isZero res
    h := decide (lowNibble a < lowNibble b + cin.toNat)
    c := decide (a.toNat < b.toNat + cin.toNat) }

/-- `And8` (R57). -/
def and8 (a b : Byte) : AluOut := { res := a &&& b, z := isZero (a &&& b), h := true, c := false }

/-- `Or8` (R58). -/
def or8 (a b : Byte) : AluOut := { res := a ||| b, z := isZero (a ||| b), h := false, c := false }

/-- `Xor8` (R59). -/
def xor8 (a b : Byte) : AluOut := { res := a ^^^ b, z := isZero (a ^^^ b), h := false, c := false }

/-- `Inc8` (R60); its carry is not used. -/
def inc8 (v : Byte) : AluOut :=
  let res := BitVec.ofNat 8 (v.toNat + 1)
  { res := res, z := isZero res, h := decide (lowNibble v = 0x0F), c := false }

/-- `Dec8` (R61); its carry is not used. -/
def dec8 (v : Byte) : AluOut :=
  let res := BitVec.ofInt 8 ((v.toNat : Int) - 1)
  { res := res, z := isZero res, h := decide (lowNibble v = 0x00), c := false }

/-- `Add16` (R62): half-carry out of bit 11, carry out of bit 15. -/
def add16 (a b : Word) : Alu16Out :=
  let s := a.toNat + b.toNat
  { res := BitVec.ofNat 16 s
    h := decide ((a &&& 0x0FFF#16).toNat + (b &&& 0x0FFF#16).toNat > 0x0FFF)
    c := decide (s > 0xFFFF) }

/-- `sext_8` (R9, R152): the byte read as two's complement. -/
def sext8 (n : Byte) : Int := n.toInt

/-- `trunc_16(a + e)` for a signed offset byte (R63, R383). -/
def offsetWord (a : Word) (e : Byte) : Word := BitVec.ofInt 16 ((a.toNat : Int) + sext8 e)

/-- `AddSPe` (R63): a signed offset, with the flags from the unsigned low-byte sums. -/
def addSPe (sp : Word) (n : Byte) : Alu16Out :=
  { res := offsetWord sp n
    h := decide ((sp &&& 0x000F#16).toNat + lowNibble n > 0x0F)
    c := decide ((sp &&& 0x00FF#16).toNat + n.toNat > 0xFF) }

/-- `b2n` (R9) as a byte. -/
def bitByte (b : Bool) : Byte := if b then 0x01#8 else 0x00#8

/-- `Rlc` (R64). -/
def rlc (v : Byte) : ShiftOut := { res := (v <<< 1) ||| bitByte (v.getLsbD 7), cout := v.getLsbD 7 }

/-- `Rrc` (R64). -/
def rrc (v : Byte) : ShiftOut := { res := (v >>> 1) ||| (bitByte (v.getLsbD 0) <<< 7), cout := v.getLsbD 0 }

/-- `Rl` (R64). -/
def rl (v : Byte) (cin : Bool) : ShiftOut := { res := (v <<< 1) ||| bitByte cin, cout := v.getLsbD 7 }

/-- `Rr` (R64). -/
def rr (v : Byte) (cin : Bool) : ShiftOut := { res := (v >>> 1) ||| (bitByte cin <<< 7), cout := v.getLsbD 0 }

/-- `Sla` (R65). -/
def sla (v : Byte) : ShiftOut := { res := v <<< 1, cout := v.getLsbD 7 }

/-- `Sra` (R65): bit 7 is kept. -/
def sra (v : Byte) : ShiftOut := { res := (v >>> 1) ||| (v &&& 0x80#8), cout := v.getLsbD 0 }

/-- `Srl` (R65): bit 7 becomes 0. -/
def srl (v : Byte) : ShiftOut := { res := v >>> 1, cout := v.getLsbD 0 }

/-- `Swap` (R66); SWAP's carry is 0 (R336). -/
def swap (v : Byte) : ShiftOut := { res := (v <<< 4) ||| (v >>> 4), cout := false }

/-- The extended rotates and shifts by their field `y` (R147), with the carry flag as carry-in. -/
def rotate (op : RotOp) (v : Byte) (cin : Bool) : ShiftOut :=
  match op with
  | .rlc => rlc v
  | .rrc => rrc v
  | .rl => rl v cin
  | .rr => rr v cin
  | .sla => sla v
  | .sra => sra v
  | .swap => swap v
  | .srl => srl v

/-- `TestBit` (R67). -/
def testBit (v : Byte) (b : Fin 8) : Bool := v.getLsbD b.val

/-- `SetBit` (R67). -/
def setBit (v : Byte) (b : Fin 8) : Byte := v ||| (1#8 <<< b.val)

/-- `ResBit` (R67). -/
def resBit (v : Byte) (b : Fin 8) : Byte := v &&& (0xFF#8 ^^^ (1#8 <<< b.val))

/-- `Daa` (R68); the half-carry it reports is the 0 of R279. -/
def daa (a : Byte) (n h c : Bool) : AluOut :=
  if n then
    let corr := (if c then 0x60 else 0) + (if h then 0x06 else 0)
    let res := BitVec.ofInt 8 ((a.toNat : Int) - corr)
    { res := res, z := isZero res, h := false, c := c }
  else
    let high := c || decide (a.toNat > 0x99)
    let low := h || decide (lowNibble a > 0x09)
    let corr := (if high then 0x60 else 0) + (if low then 0x06 else 0)
    let res := BitVec.ofNat 8 (a.toNat + corr)
    { res := res, z := isZero res, h := false, c := high }

end Sys2Proof.Machine
end

