-- ==== Sys2Proof/Machine/Operands.lean ====
section
/-! DEFINITION. Reading and writing the operands: the 8-bit registers and their pair views (R31-R37), the fields r, rr,
qq and cc (R142-R145), the flags in the state (R41, R42), and the addresses the addressing modes form (R104, R153). -/

namespace Sys2Proof.Machine

/-- `get8` (R31). -/
def State.get8 (s : State) (r : Reg8) : Byte :=
  match r with
  | .a => s.regs.a
  | .f => s.regs.f
  | .b => s.regs.b
  | .c => s.regs.c
  | .d => s.regs.d
  | .e => s.regs.e
  | .h => s.regs.h
  | .l => s.regs.l

/-- What a direct write of F stores (R40). -/
def directF (mode : FLowMode) (v : Byte) : Byte :=
  match mode with
  | .asWritten => v
  | .zero => v &&& 0xF0#8

/-- `set8` (R31); a write of F is a direct write (R40). -/
def State.set8 (s : State) (r : Reg8) (v : Byte) : State :=
  match r with
  | .a => { s with regs := { s.regs with a := v } }
  | .f => { s with regs := { s.regs with f := directF s.cfg.fLowMode v } }
  | .b => { s with regs := { s.regs with b := v } }
  | .c => { s with regs := { s.regs with c := v } }
  | .d => { s with regs := { s.regs with d := v } }
  | .e => { s with regs := { s.regs with e := v } }
  | .h => { s with regs := { s.regs with h := v } }
  | .l => { s with regs := { s.regs with l := v } }

/-- `combine(hi, lo)` (R33): the 16-bit view of any two registers. -/
def State.combine (s : State) (hi lo : Reg8) : Word := wordOf (s.get8 hi) (s.get8 lo)

/-- `splitInto(v, hi, lo)` (R34): two 8-bit writes, high register first. -/
def State.splitInto (s : State) (v : Word) (hi lo : Reg8) : State := (s.set8 hi (hiByte v)).set8 lo (loByte v)

/-- `BC` (R35). -/
def State.bc (s : State) : Word := s.combine .b .c

/-- `DE` (R35). -/
def State.de (s : State) : Word := s.combine .d .e

/-- `HL` (R35). -/
def State.hl (s : State) : Word := s.combine .h .l

/-- `AF` (R35). -/
def State.af (s : State) : Word := s.combine .a .f

/-- `HL <- v` (R36). -/
def State.setHL (s : State) (v : Word) : State := s.splitInto v .h .l

/-- The operand a field `rr` names (R143). -/
def State.getRR (s : State) (p : PairRR) : Word :=
  match p with
  | .bc => s.bc
  | .de => s.de
  | .hl => s.hl
  | .sp => s.sp

/-- `if rr == SP: SP <- v else: pair(rr) <- v` (R220, R302, R303). -/
def State.setRR (s : State) (p : PairRR) (v : Word) : State :=
  match p with
  | .bc => s.splitInto v .b .c
  | .de => s.splitInto v .d .e
  | .hl => s.splitInto v .h .l
  | .sp => { s with sp := v }

/-- `pair(qq)` (R144, R224). -/
def State.getQQ (s : State) (p : PairQQ) : Word :=
  match p with
  | .bc => s.bc
  | .de => s.de
  | .hl => s.hl
  | .af => s.af

/-- `pair(qq) <- v` (R144, R225). -/
def State.setQQ (s : State) (p : PairQQ) (v : Word) : State :=
  match p with
  | .bc => s.splitInto v .b .c
  | .de => s.splitInto v .d .e
  | .hl => s.splitInto v .h .l
  | .af => s.splitInto v .a .f

/-- `getFlag` (R41). -/
def State.flag (s : State) (flag : Flag) : Bool := flagOf s.regs.f flag

/-- `flags <- {...}` (R41). It is no direct write of F, so it never changes bits 3..0 (R40; notes/assumptions/12.md). -/
def State.setFlags (s : State) (w : FlagWrite) : State :=
  { s with regs := { s.regs with f := writeFlags s.regs.f w } }

/-- `cond(cc)` (R42). -/
def State.cond (s : State) (cc : Cond) : Bool :=
  match cc with
  | .nz => !s.flag .z
  | .z => s.flag .z
  | .nc => !s.flag .c
  | .c => s.flag .c

/-- The high-page address `0xFF00 + n` (R153). -/
def highPage (n : Byte) : Word := wordOf 0xFF#8 n

/-- `n` of R9 as a bit of a word, for `PC - hb` and the like. -/
def bitWord (b : Bool) : Word := if b then 0x0001#16 else 0x0000#16

end Sys2Proof.Machine
end

