-- ==== Sys2Proof/Machine/Ops.lean ====
section
/-! DEFINITION. The operations the meanings share: the engine's bus accesses and 16-bit sequences (R106-R108), the
cycle debt (R169), entering a fault (R450), the interrupt request, dispatch and return (R471-R478), and the shapes of
instruction the spec's families have. -/

namespace Sys2Proof.Machine

/-- What executing an instruction, and a step, answer. -/
abbrev Result := Host.Outcome State Fault Refusal

/-! ### Bus accesses -/

/-- `MemRead(a, 1)` (R11) by the engine. -/
def State.busRead (s : State) (a : Word) : Byte × State :=
  let r := s.bus.read a
  (r.1, { s with bus := r.2 })

/-- `MemWrite(a, 1, v)` (R11) by the engine. -/
def State.busWrite (s : State) (a : Word) (v : Byte) : State := { s with bus := s.bus.write a v }

/-- `Write16` (R106): the low byte at `a`, then the high byte at `a + 1`. -/
def State.write16 (s : State) (a : Word) (v : Word) : State :=
  (s.busWrite a (loByte v)).busWrite (a + 1) (hiByte v)

/-- `Read16` (R106): `a` first, then `a + 1`. -/
def State.read16 (s : State) (a : Word) : Word × State :=
  let lo := s.busRead a
  let hi := lo.2.busRead (a + 1)
  (wordOf hi.1 lo.1, hi.2)

/-- One byte of `Push16` (R107): SP drops by one, then the byte is written at SP. -/
def State.pushByte (s : State) (v : Byte) : State :=
  let s' := { s with sp := s.sp - 1 }
  s'.busWrite s'.sp v

/-- `Push16` (R107): the high byte first, to the higher address. -/
def State.push16 (s : State) (v : Word) : State := (s.pushByte (hiByte v)).pushByte (loByte v)

/-- One byte of `Pop16` (R108): the byte at SP is read, then SP rises by one. -/
def State.popByte (s : State) : Byte × State :=
  let r := s.busRead s.sp
  (r.1, { r.2 with sp := r.2.sp + 1 })

/-- `Pop16` (R108). -/
def State.pop16 (s : State) : Word × State :=
  let lo := s.popByte
  let hi := lo.2.popByte
  (wordOf hi.1 lo.1, hi.2)

/-! ### Cycle debt, program counter, faults -/

/-- Cycles-remaining after `cost` T-cycles, under `BUSY_AFTER` (R169). -/
def cyclesAfter (mode : BusyAfter) (cost : Nat) : Nat :=
  match mode with
  | .nMinusOne => cost / Config.clockUnit - 1
  | .n => cost / Config.clockUnit

/-- The cycle debt of R169 is recorded. -/
def State.charge (s : State) (cost : Nat) : State := { s with cyclesRemaining := cyclesAfter s.cfg.busyAfter cost }

/-- `PC <- target` (R10). -/
def State.setPC (s : State) (target : Word) : State := { s with pc := target }

/-- The engine enters a fault (R450): the record and the mode, and nothing else (R453). `s.pc` is still the address of
the faulting opcode, since no PC advance has happened (R166). -/
def State.raise (s : State) (kind : Fault) (bytes : List Byte) : State :=
  { s with fault := some { kind := kind, pc := s.pc, bytes := bytes }, mode := .faulted kind }

/-- The numeric code of a fault kind (R455). -/
def faultCode : Option Fault → Nat
  | none => 0
  | some .invalidOpcode => 1
  | some .malformedOperandFetch => 2

/-- The PC advance of R166, in which the halt bug is consumed: `PC0 + length - hb`. -/
def State.advance (s : State) (length : Nat) : State :=
  { s with pc := s.pc + BitVec.ofNat 16 length - bitWord s.haltBug, haltBug := false }

/-! ### Interrupts -/

/-- The address of the IE byte (R112, R470). -/
def ieAddr : Word := 0xFFFF#16

/-- The address of the IF byte (R112, R470). -/
def ifAddr : Word := 0xFF0F#16

/-- The sources enabled and requested (R471). -/
def pendingOf (ie iff : Byte) : Byte := ie &&& iff &&& 0x1F#8

/-- `Pending()` (R471): two bus reads, IE first. -/
def State.pending (s : State) : Byte × State :=
  let ie := s.busRead ieAddr
  let iff := ie.2.busRead ifAddr
  (pendingOf ie.1 iff.1, iff.2)

/-- The index of the lowest set bit of a non-zero `Pending()` (R472, R474). -/
def lowestSource (p : Byte) : Fin 5 :=
  if p.getLsbD 0 then 0
  else if p.getLsbD 1 then 1
  else if p.getLsbD 2 then 2
  else if p.getLsbD 3 then 3
  else 4

/-- The vector of source k (R473). -/
def vectorOf (k : Fin 5) : Word := BitVec.ofNat 16 (0x0040 + 8 * k.val)

/-- Acknowledging source k in the IF byte (R472). -/
def acknowledge (iff : Byte) (k : Fin 5) : Byte := iff &&& (0xFF#8 ^^^ (1#8 <<< k.val))

/-- The cost of an interrupt dispatch in T-cycles (R472, R546). -/
def dispatchCost : Nat := 20

/-- Interrupt dispatch (R472), `p` being the value the check read: IME and a pending EI cleared, the source
acknowledged in IF, the return address pushed (the HALT's own under the halt bug), PC at the vector. -/
def State.dispatch (s : State) (p : Byte) : State :=
  let k := lowestSource p
  let off := { s with ime := false, eiPending := false }
  let iff := off.busRead ifAddr
  let acked := iff.2.busWrite ifAddr (acknowledge iff.1 k)
  let ret := acked.pc - bitWord acked.haltBug
  let pushed := { acked with haltBug := false }.push16 ret
  (pushed.setPC (vectorOf k)).charge dispatchCost

/-- The return from an interrupt (R389, R478): `PC <- Pop16(); IME <- 1; ei_pending <- 0`. Nothing else is restored. -/
def State.returnFromInterrupt (s : State) : State :=
  let r := s.pop16
  { r.2.setPC r.1 with ime := true, eiPending := false }

/-- The delayed interrupt enable (R170), after an instruction at whose fetch ei_pending was `eiBefore`. -/
def State.lateEnable (s : State) (eiBefore : Bool) : State :=
  if eiBefore && s.eiPending then { s with ime := true, eiPending := false } else s

/-! ### The shapes of instruction

Each answers the state after the instruction's effect function and its cost (R168, R169). In the state it is given,
PC is the address of the next instruction in memory (R13, R166). -/

/-- A load of a register from a value: `R[r] <- v`. -/
def loadReg (r : Reg8) (v : Byte) (cost : Nat) (s : State) : Result := .next ((s.set8 r v).charge cost)

/-- A load of a register from the byte at an address: `R[r] <- MemRead(a, 1)`. -/
def loadMem (r : Reg8) (a : Word) (cost : Nat) (s : State) : Result :=
  let v := s.busRead a
  .next ((v.2.set8 r v.1).charge cost)

/-- A store of a byte at an address: `MemWrite(a, 1, v)`. -/
def storeMem (a : Word) (v : Byte) (cost : Nat) (s : State) : Result := .next ((s.busWrite a v).charge cost)

/-- `A <- MemRead(HL, 1); HL <- trunc_16(HL + delta)` (R217, R219). -/
def loadAStep (delta : Word) (s : State) : Result :=
  let v := s.busRead s.hl
  let s' := v.2.set8 .a v.1
  .next ((s'.setHL (s'.hl + delta)).charge 8)

/-- `MemWrite(HL, 1, A); HL <- trunc_16(HL + delta)` (R216, R218). -/
def storeAStep (delta : Word) (s : State) : Result :=
  let s' := s.busWrite s.hl (s.get8 .a)
  .next ((s'.setHL (s'.hl + delta)).charge 8)

/-- `rr <- v` (R220, R302, R303). -/
def writePair (p : PairRR) (v : Word) (cost : Nat) (s : State) : Result := .next ((s.setRR p v).charge cost)

/-- `PUSH qq` (R224). -/
def pushPair (p : PairQQ) (s : State) : Result := .next ((s.push16 (s.getQQ p)).charge 16)

/-- `POP qq` (R225). -/
def popPair (p : PairQQ) (s : State) : Result :=
  let v := s.pop16
  .next ((v.2.setQQ p v.1).charge 12)

/-- A's new value and all four flags. -/
def State.setAFlags (s : State) (o : AluOut) (n : Bool) : State :=
  (s.set8 .a o.res).setFlags { z := some o.z, n := some n, h := some o.h, c := some o.c }

/-- An ALU operation of field `ooo` (R146) on A and a source value (R251-R274). CP writes no register. -/
def State.alu (s : State) (op : AluOp) (src : Byte) : State :=
  let a := s.get8 .a
  let cin := s.flag .c
  match op with
  | .add => s.setAFlags (add8 a src false) false
  | .adc => s.setAFlags (add8 a src cin) false
  | .sub => s.setAFlags (sub8 a src false) true
  | .sbc => s.setAFlags (sub8 a src cin) true
  | .and => s.setAFlags (and8 a src) false
  | .xor => s.setAFlags (xor8 a src) false
  | .or => s.setAFlags (or8 a src) false
  | .cp =>
    let o := sub8 a src false
    s.setFlags { z := some o.z, n := some true, h := some o.h, c := some o.c }

/-- An ALU operation on a register or an immediate. -/
def aluValue (op : AluOp) (src : Byte) (cost : Nat) (s : State) : Result := .next ((s.alu op src).charge cost)

/-- An ALU operation on the byte at HL. -/
def aluMem (op : AluOp) (s : State) : Result :=
  let v := s.busRead s.hl
  .next ((v.2.alu op v.1).charge 8)

/-- The flags INC and DEC write: Z, N and H (R275-R278). -/
def State.incDecFlags (s : State) (o : AluOut) (n : Bool) : State :=
  s.setFlags { z := some o.z, n := some n, h := some o.h }

/-- INC r and DEC r (R275, R277). -/
def incDecReg (f : Byte → AluOut) (n : Bool) (r : Reg8) (s : State) : Result :=
  let o := f (s.get8 r)
  .next (((s.set8 r o.res).incDecFlags o n).charge 4)

/-- INC (HL) and DEC (HL): the read, then the write (R276, R278). -/
def incDecMem (f : Byte → AluOut) (n : Bool) (s : State) : Result :=
  let v := s.busRead s.hl
  let o := f v.1
  .next (((v.2.busWrite v.2.hl o.res).incDecFlags o n).charge 12)

/-- `ADD HL,rr` (R300): Z is not written. -/
def addHL (p : PairRR) (s : State) : Result :=
  let o := add16 s.hl (s.getRR p)
  .next (((s.setHL o.res).setFlags { n := some false, h := some o.h, c := some o.c }).charge 8)

/-- The flags of the SP-relative adds (R223, R301). -/
def State.spFlags (s : State) (o : Alu16Out) : State :=
  s.setFlags { z := some false, n := some false, h := some o.h, c := some o.c }

/-- The flags of a rotate or shift (R320-R339). -/
def State.shiftFlags (s : State) (z cout : Bool) : State :=
  s.setFlags { z := some z, n := some false, h := some false, c := some cout }

/-- An accumulator rotate: Z is cleared whatever the result (R320-R323). -/
def rotA (o : ShiftOut) (s : State) : Result := .next (((s.set8 .a o.res).shiftFlags false o.cout).charge 4)

/-- An extended rotate or shift of a register. -/
def rotReg (op : RotOp) (r : Reg8) (s : State) : Result :=
  let o := rotate op (s.get8 r) (s.flag .c)
  .next (((s.set8 r o.res).shiftFlags (isZero o.res) o.cout).charge 8)

/-- An extended rotate or shift of the byte at HL: the read, then the write. -/
def rotMem (op : RotOp) (s : State) : Result :=
  let v := s.busRead s.hl
  let o := rotate op v.1 (v.2.flag .c)
  .next (((v.2.busWrite v.2.hl o.res).shiftFlags (isZero o.res) o.cout).charge 16)

/-- The flags of BIT: Z is the negation of the bit, C is unchanged (R360, R361). -/
def State.bitFlags (s : State) (bit : Bool) : State := s.setFlags { z := some !bit, n := some false, h := some true }

/-- `BIT b,r` (R360). -/
def bitReg (b : Fin 8) (r : Reg8) (s : State) : Result := .next ((s.bitFlags (testBit (s.get8 r) b)).charge 8)

/-- `BIT b,(HL)` (R361): one read and no write. -/
def bitMem (b : Fin 8) (s : State) : Result :=
  let v := s.busRead s.hl
  .next ((v.2.bitFlags (testBit v.1 b)).charge 12)

/-- RES and SET of a register: no flag (R362, R364). -/
def changeReg (f : Byte → Byte) (r : Reg8) (s : State) : Result := .next ((s.set8 r (f (s.get8 r))).charge 8)

/-- RES and SET of the byte at HL: always written back, no flag (R363, R365). -/
def changeMem (f : Byte → Byte) (s : State) : Result :=
  let v := s.busRead s.hl
  .next ((v.2.busWrite v.2.hl (f v.1)).charge 16)

/-- A jump: `PC <- target`. -/
def jump (target : Word) (cost : Nat) (s : State) : Result := .next ((s.setPC target).charge cost)

/-- A conditional jump with its taken and not-taken cost (R168, R381, R384). -/
def jumpIf (cc : Cond) (target : Word) (taken notTaken : Nat) (s : State) : Result :=
  if s.cond cc then jump target taken s else .next (s.charge notTaken)

/-- CALL and RST: push the address of the next instruction and jump (R385, R390). -/
def call (target : Word) (cost : Nat) (s : State) : Result := .next (((s.push16 s.pc).setPC target).charge cost)

/-- `CALL cc,nn` (R386). -/
def callIf (cc : Cond) (target : Word) (s : State) : Result :=
  if s.cond cc then call target 24 s else .next (s.charge 12)

/-- RET and the taken RET cc: `PC <- Pop16()` (R387, R388). -/
def ret (cost : Nat) (s : State) : Result :=
  let v := s.pop16
  .next ((v.2.setPC v.1).charge cost)

/-- `RET cc` (R388). -/
def retIf (cc : Cond) (s : State) : Result := if s.cond cc then ret 20 s else .next (s.charge 8)

/-- The address RST's field `ttt` names (R149). -/
def rstTarget (t : Fin 8) : Word := BitVec.ofNat 16 (8 * t.val)

/-- Fetching an unpopulated slot: InvalidOpcode with its one opcode byte (R451). PC is the slot's own address. -/
def invalidSlot (b : Byte) (s : State) : Result := .next (s.raise .invalidOpcode [b])

end Sys2Proof.Machine
end

