-- ==== Sys2Proof/Machine/Alu16.lean ====
section
/-! DEFINITION. The 16-bit arithmetic of 42_alu16.md (R300-R303). One definition per row of the opcode
table, over the shared operations of Machine/Ops.lean. -/

namespace Sys2Proof.Machine

/-- `INC BC` (R302). -/
def execInc_BC (s : State) : Result := writePair .bc (s.getRR .bc + 1) 8 s

/-- `ADD HL,BC` (R300). -/
def execAdd_HL_BC (s : State) : Result := addHL .bc s

/-- `DEC BC` (R303). -/
def execDec_BC (s : State) : Result := writePair .bc (s.getRR .bc - 1) 8 s

/-- `INC DE` (R302). -/
def execInc_DE (s : State) : Result := writePair .de (s.getRR .de + 1) 8 s

/-- `ADD HL,DE` (R300). -/
def execAdd_HL_DE (s : State) : Result := addHL .de s

/-- `DEC DE` (R303). -/
def execDec_DE (s : State) : Result := writePair .de (s.getRR .de - 1) 8 s

/-- `INC HL` (R302). -/
def execInc_HL (s : State) : Result := writePair .hl (s.getRR .hl + 1) 8 s

/-- `ADD HL,HL` (R300). -/
def execAdd_HL_HL (s : State) : Result := addHL .hl s

/-- `DEC HL` (R303). -/
def execDec_HL (s : State) : Result := writePair .hl (s.getRR .hl - 1) 8 s

/-- `INC SP` (R302). -/
def execInc_SP (s : State) : Result := writePair .sp (s.getRR .sp + 1) 8 s

/-- `ADD HL,SP` (R300). -/
def execAdd_HL_SP (s : State) : Result := addHL .sp s

/-- `DEC SP` (R303). -/
def execDec_SP (s : State) : Result := writePair .sp (s.getRR .sp - 1) 8 s

/-- `ADD SP,e` (R301). -/
def execAdd_SP_e (e : Byte) (s : State) : Result :=
  let o := addSPe s.sp e
  .next ((({ s with sp := o.res } : State).spFlags o).charge 16)

end Sys2Proof.Machine
end

