-- ==== Sys2Proof/Machine/Alu8.lean ====
section
/-! DEFINITION. The 8-bit arithmetic and logic of 41_alu8.md (R251-R282). One definition per row of the opcode
table, over the shared operations of Machine/Ops.lean. -/

namespace Sys2Proof.Machine

/-- `INC B` (R275). -/
def execInc_B (s : State) : Result := incDecReg inc8 false .b s

/-- `DEC B` (R277). -/
def execDec_B (s : State) : Result := incDecReg dec8 true .b s

/-- `INC C` (R275). -/
def execInc_C (s : State) : Result := incDecReg inc8 false .c s

/-- `DEC C` (R277). -/
def execDec_C (s : State) : Result := incDecReg dec8 true .c s

/-- `INC D` (R275). -/
def execInc_D (s : State) : Result := incDecReg inc8 false .d s

/-- `DEC D` (R277). -/
def execDec_D (s : State) : Result := incDecReg dec8 true .d s

/-- `INC E` (R275). -/
def execInc_E (s : State) : Result := incDecReg inc8 false .e s

/-- `DEC E` (R277). -/
def execDec_E (s : State) : Result := incDecReg dec8 true .e s

/-- `INC H` (R275). -/
def execInc_H (s : State) : Result := incDecReg inc8 false .h s

/-- `DEC H` (R277). -/
def execDec_H (s : State) : Result := incDecReg dec8 true .h s

/-- `DAA` (R279). -/
def execDaa (s : State) : Result :=
  let o := daa (s.get8 .a) (s.flag .n) (s.flag .h) (s.flag .c)
  .next (((s.set8 .a o.res).setFlags { z := some o.z, h := some false, c := some o.c }).charge 4)

/-- `INC L` (R275). -/
def execInc_L (s : State) : Result := incDecReg inc8 false .l s

/-- `DEC L` (R277). -/
def execDec_L (s : State) : Result := incDecReg dec8 true .l s

/-- `CPL` (R280). -/
def execCpl (s : State) : Result := .next (((s.set8 .a (s.get8 .a ^^^ 0xFF#8)).setFlags { n := some true, h := some true }).charge 4)

/-- `INC (HL)` (R276). -/
def execInc_atHL (s : State) : Result := incDecMem inc8 false s

/-- `DEC (HL)` (R278). -/
def execDec_atHL (s : State) : Result := incDecMem dec8 true s

/-- `SCF` (R281). -/
def execScf (s : State) : Result := .next ((s.setFlags { n := some false, h := some false, c := some true }).charge 4)

/-- `INC A` (R275). -/
def execInc_A (s : State) : Result := incDecReg inc8 false .a s

/-- `DEC A` (R277). -/
def execDec_A (s : State) : Result := incDecReg dec8 true .a s

/-- `CCF` (R282). -/
def execCcf (s : State) : Result := .next ((s.setFlags { n := some false, h := some false, c := some !s.flag .c }).charge 4)

/-- `ADD A,B` (R251). -/
def execAdd_A_B (s : State) : Result := aluValue .add (s.get8 .b) 4 s

/-- `ADD A,C` (R251). -/
def execAdd_A_C (s : State) : Result := aluValue .add (s.get8 .c) 4 s

/-- `ADD A,D` (R251). -/
def execAdd_A_D (s : State) : Result := aluValue .add (s.get8 .d) 4 s

/-- `ADD A,E` (R251). -/
def execAdd_A_E (s : State) : Result := aluValue .add (s.get8 .e) 4 s

/-- `ADD A,H` (R251). -/
def execAdd_A_H (s : State) : Result := aluValue .add (s.get8 .h) 4 s

/-- `ADD A,L` (R251). -/
def execAdd_A_L (s : State) : Result := aluValue .add (s.get8 .l) 4 s

/-- `ADD A,(HL)` (R252). -/
def execAdd_A_atHL (s : State) : Result := aluMem .add s

/-- `ADD A,A` (R251). -/
def execAdd_A_A (s : State) : Result := aluValue .add (s.get8 .a) 4 s

/-- `ADC A,B` (R254). -/
def execAdc_A_B (s : State) : Result := aluValue .adc (s.get8 .b) 4 s

/-- `ADC A,C` (R254). -/
def execAdc_A_C (s : State) : Result := aluValue .adc (s.get8 .c) 4 s

/-- `ADC A,D` (R254). -/
def execAdc_A_D (s : State) : Result := aluValue .adc (s.get8 .d) 4 s

/-- `ADC A,E` (R254). -/
def execAdc_A_E (s : State) : Result := aluValue .adc (s.get8 .e) 4 s

/-- `ADC A,H` (R254). -/
def execAdc_A_H (s : State) : Result := aluValue .adc (s.get8 .h) 4 s

/-- `ADC A,L` (R254). -/
def execAdc_A_L (s : State) : Result := aluValue .adc (s.get8 .l) 4 s

/-- `ADC A,(HL)` (R255). -/
def execAdc_A_atHL (s : State) : Result := aluMem .adc s

/-- `ADC A,A` (R254). -/
def execAdc_A_A (s : State) : Result := aluValue .adc (s.get8 .a) 4 s

/-- `SUB B` (R257). -/
def execSub_B (s : State) : Result := aluValue .sub (s.get8 .b) 4 s

/-- `SUB C` (R257). -/
def execSub_C (s : State) : Result := aluValue .sub (s.get8 .c) 4 s

/-- `SUB D` (R257). -/
def execSub_D (s : State) : Result := aluValue .sub (s.get8 .d) 4 s

/-- `SUB E` (R257). -/
def execSub_E (s : State) : Result := aluValue .sub (s.get8 .e) 4 s

/-- `SUB H` (R257). -/
def execSub_H (s : State) : Result := aluValue .sub (s.get8 .h) 4 s

/-- `SUB L` (R257). -/
def execSub_L (s : State) : Result := aluValue .sub (s.get8 .l) 4 s

/-- `SUB (HL)` (R258). -/
def execSub_atHL (s : State) : Result := aluMem .sub s

/-- `SUB A` (R257). -/
def execSub_A (s : State) : Result := aluValue .sub (s.get8 .a) 4 s

/-- `SBC A,B` (R260). -/
def execSbc_A_B (s : State) : Result := aluValue .sbc (s.get8 .b) 4 s

/-- `SBC A,C` (R260). -/
def execSbc_A_C (s : State) : Result := aluValue .sbc (s.get8 .c) 4 s

/-- `SBC A,D` (R260). -/
def execSbc_A_D (s : State) : Result := aluValue .sbc (s.get8 .d) 4 s

/-- `SBC A,E` (R260). -/
def execSbc_A_E (s : State) : Result := aluValue .sbc (s.get8 .e) 4 s

/-- `SBC A,H` (R260). -/
def execSbc_A_H (s : State) : Result := aluValue .sbc (s.get8 .h) 4 s

/-- `SBC A,L` (R260). -/
def execSbc_A_L (s : State) : Result := aluValue .sbc (s.get8 .l) 4 s

/-- `SBC A,(HL)` (R261). -/
def execSbc_A_atHL (s : State) : Result := aluMem .sbc s

/-- `SBC A,A` (R260). -/
def execSbc_A_A (s : State) : Result := aluValue .sbc (s.get8 .a) 4 s

/-- `AND B` (R263). -/
def execAnd_B (s : State) : Result := aluValue .and (s.get8 .b) 4 s

/-- `AND C` (R263). -/
def execAnd_C (s : State) : Result := aluValue .and (s.get8 .c) 4 s

/-- `AND D` (R263). -/
def execAnd_D (s : State) : Result := aluValue .and (s.get8 .d) 4 s

/-- `AND E` (R263). -/
def execAnd_E (s : State) : Result := aluValue .and (s.get8 .e) 4 s

/-- `AND H` (R263). -/
def execAnd_H (s : State) : Result := aluValue .and (s.get8 .h) 4 s

/-- `AND L` (R263). -/
def execAnd_L (s : State) : Result := aluValue .and (s.get8 .l) 4 s

/-- `AND (HL)` (R264). -/
def execAnd_atHL (s : State) : Result := aluMem .and s

/-- `AND A` (R263). -/
def execAnd_A (s : State) : Result := aluValue .and (s.get8 .a) 4 s

/-- `XOR B` (R266). -/
def execXor_B (s : State) : Result := aluValue .xor (s.get8 .b) 4 s

/-- `XOR C` (R266). -/
def execXor_C (s : State) : Result := aluValue .xor (s.get8 .c) 4 s

/-- `XOR D` (R266). -/
def execXor_D (s : State) : Result := aluValue .xor (s.get8 .d) 4 s

/-- `XOR E` (R266). -/
def execXor_E (s : State) : Result := aluValue .xor (s.get8 .e) 4 s

/-- `XOR H` (R266). -/
def execXor_H (s : State) : Result := aluValue .xor (s.get8 .h) 4 s

/-- `XOR L` (R266). -/
def execXor_L (s : State) : Result := aluValue .xor (s.get8 .l) 4 s

/-- `XOR (HL)` (R267). -/
def execXor_atHL (s : State) : Result := aluMem .xor s

/-- `XOR A` (R266). -/
def execXor_A (s : State) : Result := aluValue .xor (s.get8 .a) 4 s

/-- `OR B` (R269). -/
def execOr_B (s : State) : Result := aluValue .or (s.get8 .b) 4 s

/-- `OR C` (R269). -/
def execOr_C (s : State) : Result := aluValue .or (s.get8 .c) 4 s

/-- `OR D` (R269). -/
def execOr_D (s : State) : Result := aluValue .or (s.get8 .d) 4 s

/-- `OR E` (R269). -/
def execOr_E (s : State) : Result := aluValue .or (s.get8 .e) 4 s

/-- `OR H` (R269). -/
def execOr_H (s : State) : Result := aluValue .or (s.get8 .h) 4 s

/-- `OR L` (R269). -/
def execOr_L (s : State) : Result := aluValue .or (s.get8 .l) 4 s

/-- `OR (HL)` (R270). -/
def execOr_atHL (s : State) : Result := aluMem .or s

/-- `OR A` (R269). -/
def execOr_A (s : State) : Result := aluValue .or (s.get8 .a) 4 s

/-- `CP B` (R272). -/
def execCp_B (s : State) : Result := aluValue .cp (s.get8 .b) 4 s

/-- `CP C` (R272). -/
def execCp_C (s : State) : Result := aluValue .cp (s.get8 .c) 4 s

/-- `CP D` (R272). -/
def execCp_D (s : State) : Result := aluValue .cp (s.get8 .d) 4 s

/-- `CP E` (R272). -/
def execCp_E (s : State) : Result := aluValue .cp (s.get8 .e) 4 s

/-- `CP H` (R272). -/
def execCp_H (s : State) : Result := aluValue .cp (s.get8 .h) 4 s

/-- `CP L` (R272). -/
def execCp_L (s : State) : Result := aluValue .cp (s.get8 .l) 4 s

/-- `CP (HL)` (R273). -/
def execCp_atHL (s : State) : Result := aluMem .cp s

/-- `CP A` (R272). -/
def execCp_A (s : State) : Result := aluValue .cp (s.get8 .a) 4 s

/-- `ADD A,n` (R253). -/
def execAdd_A_n (n : Byte) (s : State) : Result := aluValue .add n 8 s

/-- `ADC A,n` (R256). -/
def execAdc_A_n (n : Byte) (s : State) : Result := aluValue .adc n 8 s

/-- `SUB n` (R259). -/
def execSub_n (n : Byte) (s : State) : Result := aluValue .sub n 8 s

/-- `SBC A,n` (R262). -/
def execSbc_A_n (n : Byte) (s : State) : Result := aluValue .sbc n 8 s

/-- `AND n` (R265). -/
def execAnd_n (n : Byte) (s : State) : Result := aluValue .and n 8 s

/-- `XOR n` (R268). -/
def execXor_n (n : Byte) (s : State) : Result := aluValue .xor n 8 s

/-- `OR n` (R271). -/
def execOr_n (n : Byte) (s : State) : Result := aluValue .or n 8 s

/-- `CP n` (R274). -/
def execCp_n (n : Byte) (s : State) : Result := aluValue .cp n 8 s

end Sys2Proof.Machine
end

