-- ==== Sys2Proof/Machine/Bit.lean ====
section
/-! DEFINITION. The bit test, reset and set of 44_bit.md (R360-R365). One definition per row of the opcode
table, over the shared operations of Machine/Ops.lean. -/

namespace Sys2Proof.Machine

/-- `BIT 0,B` (R360). -/
def execBit_0_B (s : State) : Result := bitReg 0 .b s

/-- `BIT 0,C` (R360). -/
def execBit_0_C (s : State) : Result := bitReg 0 .c s

/-- `BIT 0,D` (R360). -/
def execBit_0_D (s : State) : Result := bitReg 0 .d s

/-- `BIT 0,E` (R360). -/
def execBit_0_E (s : State) : Result := bitReg 0 .e s

/-- `BIT 0,H` (R360). -/
def execBit_0_H (s : State) : Result := bitReg 0 .h s

/-- `BIT 0,L` (R360). -/
def execBit_0_L (s : State) : Result := bitReg 0 .l s

/-- `BIT 0,(HL)` (R361). -/
def execBit_0_atHL (s : State) : Result := bitMem 0 s

/-- `BIT 0,A` (R360). -/
def execBit_0_A (s : State) : Result := bitReg 0 .a s

/-- `BIT 1,B` (R360). -/
def execBit_1_B (s : State) : Result := bitReg 1 .b s

/-- `BIT 1,C` (R360). -/
def execBit_1_C (s : State) : Result := bitReg 1 .c s

/-- `BIT 1,D` (R360). -/
def execBit_1_D (s : State) : Result := bitReg 1 .d s

/-- `BIT 1,E` (R360). -/
def execBit_1_E (s : State) : Result := bitReg 1 .e s

/-- `BIT 1,H` (R360). -/
def execBit_1_H (s : State) : Result := bitReg 1 .h s

/-- `BIT 1,L` (R360). -/
def execBit_1_L (s : State) : Result := bitReg 1 .l s

/-- `BIT 1,(HL)` (R361). -/
def execBit_1_atHL (s : State) : Result := bitMem 1 s

/-- `BIT 1,A` (R360). -/
def execBit_1_A (s : State) : Result := bitReg 1 .a s

/-- `BIT 2,B` (R360). -/
def execBit_2_B (s : State) : Result := bitReg 2 .b s

/-- `BIT 2,C` (R360). -/
def execBit_2_C (s : State) : Result := bitReg 2 .c s

/-- `BIT 2,D` (R360). -/
def execBit_2_D (s : State) : Result := bitReg 2 .d s

/-- `BIT 2,E` (R360). -/
def execBit_2_E (s : State) : Result := bitReg 2 .e s

/-- `BIT 2,H` (R360). -/
def execBit_2_H (s : State) : Result := bitReg 2 .h s

/-- `BIT 2,L` (R360). -/
def execBit_2_L (s : State) : Result := bitReg 2 .l s

/-- `BIT 2,(HL)` (R361). -/
def execBit_2_atHL (s : State) : Result := bitMem 2 s

/-- `BIT 2,A` (R360). -/
def execBit_2_A (s : State) : Result := bitReg 2 .a s

/-- `BIT 3,B` (R360). -/
def execBit_3_B (s : State) : Result := bitReg 3 .b s

/-- `BIT 3,C` (R360). -/
def execBit_3_C (s : State) : Result := bitReg 3 .c s

/-- `BIT 3,D` (R360). -/
def execBit_3_D (s : State) : Result := bitReg 3 .d s

/-- `BIT 3,E` (R360). -/
def execBit_3_E (s : State) : Result := bitReg 3 .e s

/-- `BIT 3,H` (R360). -/
def execBit_3_H (s : State) : Result := bitReg 3 .h s

/-- `BIT 3,L` (R360). -/
def execBit_3_L (s : State) : Result := bitReg 3 .l s

/-- `BIT 3,(HL)` (R361). -/
def execBit_3_atHL (s : State) : Result := bitMem 3 s

/-- `BIT 3,A` (R360). -/
def execBit_3_A (s : State) : Result := bitReg 3 .a s

/-- `BIT 4,B` (R360). -/
def execBit_4_B (s : State) : Result := bitReg 4 .b s

/-- `BIT 4,C` (R360). -/
def execBit_4_C (s : State) : Result := bitReg 4 .c s

/-- `BIT 4,D` (R360). -/
def execBit_4_D (s : State) : Result := bitReg 4 .d s

/-- `BIT 4,E` (R360). -/
def execBit_4_E (s : State) : Result := bitReg 4 .e s

/-- `BIT 4,H` (R360). -/
def execBit_4_H (s : State) : Result := bitReg 4 .h s

/-- `BIT 4,L` (R360). -/
def execBit_4_L (s : State) : Result := bitReg 4 .l s

/-- `BIT 4,(HL)` (R361). -/
def execBit_4_atHL (s : State) : Result := bitMem 4 s

/-- `BIT 4,A` (R360). -/
def execBit_4_A (s : State) : Result := bitReg 4 .a s

/-- `BIT 5,B` (R360). -/
def execBit_5_B (s : State) : Result := bitReg 5 .b s

/-- `BIT 5,C` (R360). -/
def execBit_5_C (s : State) : Result := bitReg 5 .c s

/-- `BIT 5,D` (R360). -/
def execBit_5_D (s : State) : Result := bitReg 5 .d s

/-- `BIT 5,E` (R360). -/
def execBit_5_E (s : State) : Result := bitReg 5 .e s

/-- `BIT 5,H` (R360). -/
def execBit_5_H (s : State) : Result := bitReg 5 .h s

/-- `BIT 5,L` (R360). -/
def execBit_5_L (s : State) : Result := bitReg 5 .l s

/-- `BIT 5,(HL)` (R361). -/
def execBit_5_atHL (s : State) : Result := bitMem 5 s

/-- `BIT 5,A` (R360). -/
def execBit_5_A (s : State) : Result := bitReg 5 .a s

/-- `BIT 6,B` (R360). -/
def execBit_6_B (s : State) : Result := bitReg 6 .b s

/-- `BIT 6,C` (R360). -/
def execBit_6_C (s : State) : Result := bitReg 6 .c s

/-- `BIT 6,D` (R360). -/
def execBit_6_D (s : State) : Result := bitReg 6 .d s

/-- `BIT 6,E` (R360). -/
def execBit_6_E (s : State) : Result := bitReg 6 .e s

/-- `BIT 6,H` (R360). -/
def execBit_6_H (s : State) : Result := bitReg 6 .h s

/-- `BIT 6,L` (R360). -/
def execBit_6_L (s : State) : Result := bitReg 6 .l s

/-- `BIT 6,(HL)` (R361). -/
def execBit_6_atHL (s : State) : Result := bitMem 6 s

/-- `BIT 6,A` (R360). -/
def execBit_6_A (s : State) : Result := bitReg 6 .a s

/-- `BIT 7,B` (R360). -/
def execBit_7_B (s : State) : Result := bitReg 7 .b s

/-- `BIT 7,C` (R360). -/
def execBit_7_C (s : State) : Result := bitReg 7 .c s

/-- `BIT 7,D` (R360). -/
def execBit_7_D (s : State) : Result := bitReg 7 .d s

/-- `BIT 7,E` (R360). -/
def execBit_7_E (s : State) : Result := bitReg 7 .e s

/-- `BIT 7,H` (R360). -/
def execBit_7_H (s : State) : Result := bitReg 7 .h s

/-- `BIT 7,L` (R360). -/
def execBit_7_L (s : State) : Result := bitReg 7 .l s

/-- `BIT 7,(HL)` (R361). -/
def execBit_7_atHL (s : State) : Result := bitMem 7 s

/-- `BIT 7,A` (R360). -/
def execBit_7_A (s : State) : Result := bitReg 7 .a s

/-- `RES 0,B` (R362). -/
def execRes_0_B (s : State) : Result := changeReg (resBit · 0) .b s

/-- `RES 0,C` (R362). -/
def execRes_0_C (s : State) : Result := changeReg (resBit · 0) .c s

/-- `RES 0,D` (R362). -/
def execRes_0_D (s : State) : Result := changeReg (resBit · 0) .d s

/-- `RES 0,E` (R362). -/
def execRes_0_E (s : State) : Result := changeReg (resBit · 0) .e s

/-- `RES 0,H` (R362). -/
def execRes_0_H (s : State) : Result := changeReg (resBit · 0) .h s

/-- `RES 0,L` (R362). -/
def execRes_0_L (s : State) : Result := changeReg (resBit · 0) .l s

/-- `RES 0,(HL)` (R363). -/
def execRes_0_atHL (s : State) : Result := changeMem (resBit · 0) s

/-- `RES 0,A` (R362). -/
def execRes_0_A (s : State) : Result := changeReg (resBit · 0) .a s

/-- `RES 1,B` (R362). -/
def execRes_1_B (s : State) : Result := changeReg (resBit · 1) .b s

/-- `RES 1,C` (R362). -/
def execRes_1_C (s : State) : Result := changeReg (resBit · 1) .c s

/-- `RES 1,D` (R362). -/
def execRes_1_D (s : State) : Result := changeReg (resBit · 1) .d s

/-- `RES 1,E` (R362). -/
def execRes_1_E (s : State) : Result := changeReg (resBit · 1) .e s

/-- `RES 1,H` (R362). -/
def execRes_1_H (s : State) : Result := changeReg (resBit · 1) .h s

/-- `RES 1,L` (R362). -/
def execRes_1_L (s : State) : Result := changeReg (resBit · 1) .l s

/-- `RES 1,(HL)` (R363). -/
def execRes_1_atHL (s : State) : Result := changeMem (resBit · 1) s

/-- `RES 1,A` (R362). -/
def execRes_1_A (s : State) : Result := changeReg (resBit · 1) .a s

/-- `RES 2,B` (R362). -/
def execRes_2_B (s : State) : Result := changeReg (resBit · 2) .b s

/-- `RES 2,C` (R362). -/
def execRes_2_C (s : State) : Result := changeReg (resBit · 2) .c s

/-- `RES 2,D` (R362). -/
def execRes_2_D (s : State) : Result := changeReg (resBit · 2) .d s

/-- `RES 2,E` (R362). -/
def execRes_2_E (s : State) : Result := changeReg (resBit · 2) .e s

/-- `RES 2,H` (R362). -/
def execRes_2_H (s : State) : Result := changeReg (resBit · 2) .h s

/-- `RES 2,L` (R362). -/
def execRes_2_L (s : State) : Result := changeReg (resBit · 2) .l s

/-- `RES 2,(HL)` (R363). -/
def execRes_2_atHL (s : State) : Result := changeMem (resBit · 2) s

/-- `RES 2,A` (R362). -/
def execRes_2_A (s : State) : Result := changeReg (resBit · 2) .a s

/-- `RES 3,B` (R362). -/
def execRes_3_B (s : State) : Result := changeReg (resBit · 3) .b s

/-- `RES 3,C` (R362). -/
def execRes_3_C (s : State) : Result := changeReg (resBit · 3) .c s

/-- `RES 3,D` (R362). -/
def execRes_3_D (s : State) : Result := changeReg (resBit · 3) .d s

/-- `RES 3,E` (R362). -/
def execRes_3_E (s : State) : Result := changeReg (resBit · 3) .e s

/-- `RES 3,H` (R362). -/
def execRes_3_H (s : State) : Result := changeReg (resBit · 3) .h s

/-- `RES 3,L` (R362). -/
def execRes_3_L (s : State) : Result := changeReg (resBit · 3) .l s

/-- `RES 3,(HL)` (R363). -/
def execRes_3_atHL (s : State) : Result := changeMem (resBit · 3) s

/-- `RES 3,A` (R362). -/
def execRes_3_A (s : State) : Result := changeReg (resBit · 3) .a s

/-- `RES 4,B` (R362). -/
def execRes_4_B (s : State) : Result := changeReg (resBit · 4) .b s

/-- `RES 4,C` (R362). -/
def execRes_4_C (s : State) : Result := changeReg (resBit · 4) .c s

/-- `RES 4,D` (R362). -/
def execRes_4_D (s : State) : Result := changeReg (resBit · 4) .d s

/-- `RES 4,E` (R362). -/
def execRes_4_E (s : State) : Result := changeReg (resBit · 4) .e s

/-- `RES 4,H` (R362). -/
def execRes_4_H (s : State) : Result := changeReg (resBit · 4) .h s

/-- `RES 4,L` (R362). -/
def execRes_4_L (s : State) : Result := changeReg (resBit · 4) .l s

/-- `RES 4,(HL)` (R363). -/
def execRes_4_atHL (s : State) : Result := changeMem (resBit · 4) s

/-- `RES 4,A` (R362). -/
def execRes_4_A (s : State) : Result := changeReg (resBit · 4) .a s

/-- `RES 5,B` (R362). -/
def execRes_5_B (s : State) : Result := changeReg (resBit · 5) .b s

/-- `RES 5,C` (R362). -/
def execRes_5_C (s : State) : Result := changeReg (resBit · 5) .c s

/-- `RES 5,D` (R362). -/
def execRes_5_D (s : State) : Result := changeReg (resBit · 5) .d s

/-- `RES 5,E` (R362). -/
def execRes_5_E (s : State) : Result := changeReg (resBit · 5) .e s

/-- `RES 5,H` (R362). -/
def execRes_5_H (s : State) : Result := changeReg (resBit · 5) .h s

/-- `RES 5,L` (R362). -/
def execRes_5_L (s : State) : Result := changeReg (resBit · 5) .l s

/-- `RES 5,(HL)` (R363). -/
def execRes_5_atHL (s : State) : Result := changeMem (resBit · 5) s

/-- `RES 5,A` (R362). -/
def execRes_5_A (s : State) : Result := changeReg (resBit · 5) .a s

/-- `RES 6,B` (R362). -/
def execRes_6_B (s : State) : Result := changeReg (resBit · 6) .b s

/-- `RES 6,C` (R362). -/
def execRes_6_C (s : State) : Result := changeReg (resBit · 6) .c s

/-- `RES 6,D` (R362). -/
def execRes_6_D (s : State) : Result := changeReg (resBit · 6) .d s

/-- `RES 6,E` (R362). -/
def execRes_6_E (s : State) : Result := changeReg (resBit · 6) .e s

/-- `RES 6,H` (R362). -/
def execRes_6_H (s : State) : Result := changeReg (resBit · 6) .h s

/-- `RES 6,L` (R362). -/
def execRes_6_L (s : State) : Result := changeReg (resBit · 6) .l s

/-- `RES 6,(HL)` (R363). -/
def execRes_6_atHL (s : State) : Result := changeMem (resBit · 6) s

/-- `RES 6,A` (R362). -/
def execRes_6_A (s : State) : Result := changeReg (resBit · 6) .a s

/-- `RES 7,B` (R362). -/
def execRes_7_B (s : State) : Result := changeReg (resBit · 7) .b s

/-- `RES 7,C` (R362). -/
def execRes_7_C (s : State) : Result := changeReg (resBit · 7) .c s

/-- `RES 7,D` (R362). -/
def execRes_7_D (s : State) : Result := changeReg (resBit · 7) .d s

/-- `RES 7,E` (R362). -/
def execRes_7_E (s : State) : Result := changeReg (resBit · 7) .e s

/-- `RES 7,H` (R362). -/
def execRes_7_H (s : State) : Result := changeReg (resBit · 7) .h s

/-- `RES 7,L` (R362). -/
def execRes_7_L (s : State) : Result := changeReg (resBit · 7) .l s

/-- `RES 7,(HL)` (R363). -/
def execRes_7_atHL (s : State) : Result := changeMem (resBit · 7) s

/-- `RES 7,A` (R362). -/
def execRes_7_A (s : State) : Result := changeReg (resBit · 7) .a s

/-- `SET 0,B` (R364). -/
def execSet_0_B (s : State) : Result := changeReg (setBit · 0) .b s

/-- `SET 0,C` (R364). -/
def execSet_0_C (s : State) : Result := changeReg (setBit · 0) .c s

/-- `SET 0,D` (R364). -/
def execSet_0_D (s : State) : Result := changeReg (setBit · 0) .d s

/-- `SET 0,E` (R364). -/
def execSet_0_E (s : State) : Result := changeReg (setBit · 0) .e s

/-- `SET 0,H` (R364). -/
def execSet_0_H (s : State) : Result := changeReg (setBit · 0) .h s

/-- `SET 0,L` (R364). -/
def execSet_0_L (s : State) : Result := changeReg (setBit · 0) .l s

/-- `SET 0,(HL)` (R365). -/
def execSet_0_atHL (s : State) : Result := changeMem (setBit · 0) s

/-- `SET 0,A` (R364). -/
def execSet_0_A (s : State) : Result := changeReg (setBit · 0) .a s

/-- `SET 1,B` (R364). -/
def execSet_1_B (s : State) : Result := changeReg (setBit · 1) .b s

/-- `SET 1,C` (R364). -/
def execSet_1_C (s : State) : Result := changeReg (setBit · 1) .c s

/-- `SET 1,D` (R364). -/
def execSet_1_D (s : State) : Result := changeReg (setBit · 1) .d s

/-- `SET 1,E` (R364). -/
def execSet_1_E (s : State) : Result := changeReg (setBit · 1) .e s

/-- `SET 1,H` (R364). -/
def execSet_1_H (s : State) : Result := changeReg (setBit · 1) .h s

/-- `SET 1,L` (R364). -/
def execSet_1_L (s : State) : Result := changeReg (setBit · 1) .l s

/-- `SET 1,(HL)` (R365). -/
def execSet_1_atHL (s : State) : Result := changeMem (setBit · 1) s

/-- `SET 1,A` (R364). -/
def execSet_1_A (s : State) : Result := changeReg (setBit · 1) .a s

/-- `SET 2,B` (R364). -/
def execSet_2_B (s : State) : Result := changeReg (setBit · 2) .b s

/-- `SET 2,C` (R364). -/
def execSet_2_C (s : State) : Result := changeReg (setBit · 2) .c s

/-- `SET 2,D` (R364). -/
def execSet_2_D (s : State) : Result := changeReg (setBit · 2) .d s

/-- `SET 2,E` (R364). -/
def execSet_2_E (s : State) : Result := changeReg (setBit · 2) .e s

/-- `SET 2,H` (R364). -/
def execSet_2_H (s : State) : Result := changeReg (setBit · 2) .h s

/-- `SET 2,L` (R364). -/
def execSet_2_L (s : State) : Result := changeReg (setBit · 2) .l s

/-- `SET 2,(HL)` (R365). -/
def execSet_2_atHL (s : State) : Result := changeMem (setBit · 2) s

/-- `SET 2,A` (R364). -/
def execSet_2_A (s : State) : Result := changeReg (setBit · 2) .a s

/-- `SET 3,B` (R364). -/
def execSet_3_B (s : State) : Result := changeReg (setBit · 3) .b s

/-- `SET 3,C` (R364). -/
def execSet_3_C (s : State) : Result := changeReg (setBit · 3) .c s

/-- `SET 3,D` (R364). -/
def execSet_3_D (s : State) : Result := changeReg (setBit · 3) .d s

/-- `SET 3,E` (R364). -/
def execSet_3_E (s : State) : Result := changeReg (setBit · 3) .e s

/-- `SET 3,H` (R364). -/
def execSet_3_H (s : State) : Result := changeReg (setBit · 3) .h s

/-- `SET 3,L` (R364). -/
def execSet_3_L (s : State) : Result := changeReg (setBit · 3) .l s

/-- `SET 3,(HL)` (R365). -/
def execSet_3_atHL (s : State) : Result := changeMem (setBit · 3) s

/-- `SET 3,A` (R364). -/
def execSet_3_A (s : State) : Result := changeReg (setBit · 3) .a s

/-- `SET 4,B` (R364). -/
def execSet_4_B (s : State) : Result := changeReg (setBit · 4) .b s

/-- `SET 4,C` (R364). -/
def execSet_4_C (s : State) : Result := changeReg (setBit · 4) .c s

/-- `SET 4,D` (R364). -/
def execSet_4_D (s : State) : Result := changeReg (setBit · 4) .d s

/-- `SET 4,E` (R364). -/
def execSet_4_E (s : State) : Result := changeReg (setBit · 4) .e s

/-- `SET 4,H` (R364). -/
def execSet_4_H (s : State) : Result := changeReg (setBit · 4) .h s

/-- `SET 4,L` (R364). -/
def execSet_4_L (s : State) : Result := changeReg (setBit · 4) .l s

/-- `SET 4,(HL)` (R365). -/
def execSet_4_atHL (s : State) : Result := changeMem (setBit · 4) s

/-- `SET 4,A` (R364). -/
def execSet_4_A (s : State) : Result := changeReg (setBit · 4) .a s

/-- `SET 5,B` (R364). -/
def execSet_5_B (s : State) : Result := changeReg (setBit · 5) .b s

/-- `SET 5,C` (R364). -/
def execSet_5_C (s : State) : Result := changeReg (setBit · 5) .c s

/-- `SET 5,D` (R364). -/
def execSet_5_D (s : State) : Result := changeReg (setBit · 5) .d s

/-- `SET 5,E` (R364). -/
def execSet_5_E (s : State) : Result := changeReg (setBit · 5) .e s

/-- `SET 5,H` (R364). -/
def execSet_5_H (s : State) : Result := changeReg (setBit · 5) .h s

/-- `SET 5,L` (R364). -/
def execSet_5_L (s : State) : Result := changeReg (setBit · 5) .l s

/-- `SET 5,(HL)` (R365). -/
def execSet_5_atHL (s : State) : Result := changeMem (setBit · 5) s

/-- `SET 5,A` (R364). -/
def execSet_5_A (s : State) : Result := changeReg (setBit · 5) .a s

/-- `SET 6,B` (R364). -/
def execSet_6_B (s : State) : Result := changeReg (setBit · 6) .b s

/-- `SET 6,C` (R364). -/
def execSet_6_C (s : State) : Result := changeReg (setBit · 6) .c s

/-- `SET 6,D` (R364). -/
def execSet_6_D (s : State) : Result := changeReg (setBit · 6) .d s

/-- `SET 6,E` (R364). -/
def execSet_6_E (s : State) : Result := changeReg (setBit · 6) .e s

/-- `SET 6,H` (R364). -/
def execSet_6_H (s : State) : Result := changeReg (setBit · 6) .h s

/-- `SET 6,L` (R364). -/
def execSet_6_L (s : State) : Result := changeReg (setBit · 6) .l s

/-- `SET 6,(HL)` (R365). -/
def execSet_6_atHL (s : State) : Result := changeMem (setBit · 6) s

/-- `SET 6,A` (R364). -/
def execSet_6_A (s : State) : Result := changeReg (setBit · 6) .a s

/-- `SET 7,B` (R364). -/
def execSet_7_B (s : State) : Result := changeReg (setBit · 7) .b s

/-- `SET 7,C` (R364). -/
def execSet_7_C (s : State) : Result := changeReg (setBit · 7) .c s

/-- `SET 7,D` (R364). -/
def execSet_7_D (s : State) : Result := changeReg (setBit · 7) .d s

/-- `SET 7,E` (R364). -/
def execSet_7_E (s : State) : Result := changeReg (setBit · 7) .e s

/-- `SET 7,H` (R364). -/
def execSet_7_H (s : State) : Result := changeReg (setBit · 7) .h s

/-- `SET 7,L` (R364). -/
def execSet_7_L (s : State) : Result := changeReg (setBit · 7) .l s

/-- `SET 7,(HL)` (R365). -/
def execSet_7_atHL (s : State) : Result := changeMem (setBit · 7) s

/-- `SET 7,A` (R364). -/
def execSet_7_A (s : State) : Result := changeReg (setBit · 7) .a s

end Sys2Proof.Machine
end

