-- ==== Sys2Proof/Machine/Control.lean ====
section
/-! DEFINITION. The control flow of 45_control.md (R380-R390). One definition per row of the opcode
table, over the shared operations of Machine/Ops.lean. -/

namespace Sys2Proof.Machine

/-- `JR e` (R383). -/
def execJr_e (e : Byte) (s : State) : Result := jump (offsetWord s.pc e) 12 s

/-- `JR NZ,e` (R384). -/
def execJr_NZ_e (e : Byte) (s : State) : Result := jumpIf .nz (offsetWord s.pc e) 12 8 s

/-- `JR Z,e` (R384). -/
def execJr_Z_e (e : Byte) (s : State) : Result := jumpIf .z (offsetWord s.pc e) 12 8 s

/-- `JR NC,e` (R384). -/
def execJr_NC_e (e : Byte) (s : State) : Result := jumpIf .nc (offsetWord s.pc e) 12 8 s

/-- `JR C,e` (R384). -/
def execJr_C_e (e : Byte) (s : State) : Result := jumpIf .c (offsetWord s.pc e) 12 8 s

/-- `RET NZ` (R388). -/
def execRet_NZ (s : State) : Result := retIf .nz s

/-- `JP NZ,nn` (R381). -/
def execJp_NZ_nn (nn : Word) (s : State) : Result := jumpIf .nz nn 16 12 s

/-- `JP nn` (R380). -/
def execJp_nn (nn : Word) (s : State) : Result := jump nn 16 s

/-- `CALL NZ,nn` (R386). -/
def execCall_NZ_nn (nn : Word) (s : State) : Result := callIf .nz nn s

/-- `RST 00h` (R390). -/
def execRst_00h (s : State) : Result := call (rstTarget 0) 16 s

/-- `RET Z` (R388). -/
def execRet_Z (s : State) : Result := retIf .z s

/-- `RET` (R387). -/
def execRet (s : State) : Result := ret 16 s

/-- `JP Z,nn` (R381). -/
def execJp_Z_nn (nn : Word) (s : State) : Result := jumpIf .z nn 16 12 s

/-- `CALL Z,nn` (R386). -/
def execCall_Z_nn (nn : Word) (s : State) : Result := callIf .z nn s

/-- `CALL nn` (R385). -/
def execCall_nn (nn : Word) (s : State) : Result := call nn 24 s

/-- `RST 08h` (R390). -/
def execRst_08h (s : State) : Result := call (rstTarget 1) 16 s

/-- `RET NC` (R388). -/
def execRet_NC (s : State) : Result := retIf .nc s

/-- `JP NC,nn` (R381). -/
def execJp_NC_nn (nn : Word) (s : State) : Result := jumpIf .nc nn 16 12 s

/-- `CALL NC,nn` (R386). -/
def execCall_NC_nn (nn : Word) (s : State) : Result := callIf .nc nn s

/-- `RST 10h` (R390). -/
def execRst_10h (s : State) : Result := call (rstTarget 2) 16 s

/-- `RET C` (R388). -/
def execRet_C (s : State) : Result := retIf .c s

/-- `RETI` (R389). -/
def execReti (s : State) : Result := .next (s.returnFromInterrupt.charge 16)

/-- `JP C,nn` (R381). -/
def execJp_C_nn (nn : Word) (s : State) : Result := jumpIf .c nn 16 12 s

/-- `CALL C,nn` (R386). -/
def execCall_C_nn (nn : Word) (s : State) : Result := callIf .c nn s

/-- `RST 18h` (R390). -/
def execRst_18h (s : State) : Result := call (rstTarget 3) 16 s

/-- `RST 20h` (R390). -/
def execRst_20h (s : State) : Result := call (rstTarget 4) 16 s

/-- `JP HL` (R382). -/
def execJp_HL (s : State) : Result := jump s.hl 4 s

/-- `RST 28h` (R390). -/
def execRst_28h (s : State) : Result := call (rstTarget 5) 16 s

/-- `RST 30h` (R390). -/
def execRst_30h (s : State) : Result := call (rstTarget 6) 16 s

/-- `RST 38h` (R390). -/
def execRst_38h (s : State) : Result := call (rstTarget 7) 16 s

end Sys2Proof.Machine
end

