-- ==== Sys2Proof/Machine/Load.lean ====
section
/-! DEFINITION. The loads, stores and stack transfers of 40_load.md (R201-R225). One definition per row of the opcode
table, over the shared operations of Machine/Ops.lean. -/

namespace Sys2Proof.Machine

/-- `LD BC,nn` (R220). -/
def execLd_BC_nn (nn : Word) (s : State) : Result := writePair .bc nn 12 s

/-- `LD (BC),A` (R208). -/
def execLd_atBC_A (s : State) : Result := storeMem s.bc (s.get8 .a) 8 s

/-- `LD B,n` (R202). -/
def execLd_B_n (n : Byte) (s : State) : Result := loadReg .b n 8 s

/-- `LD (nn),SP` (R221). -/
def execLd_atnn_SP (nn : Word) (s : State) : Result := .next ((s.write16 nn s.sp).charge 20)

/-- `LD A,(BC)` (R206). -/
def execLd_A_atBC (s : State) : Result := loadMem .a s.bc 8 s

/-- `LD C,n` (R202). -/
def execLd_C_n (n : Byte) (s : State) : Result := loadReg .c n 8 s

/-- `LD DE,nn` (R220). -/
def execLd_DE_nn (nn : Word) (s : State) : Result := writePair .de nn 12 s

/-- `LD (DE),A` (R209). -/
def execLd_atDE_A (s : State) : Result := storeMem s.de (s.get8 .a) 8 s

/-- `LD D,n` (R202). -/
def execLd_D_n (n : Byte) (s : State) : Result := loadReg .d n 8 s

/-- `LD A,(DE)` (R207). -/
def execLd_A_atDE (s : State) : Result := loadMem .a s.de 8 s

/-- `LD E,n` (R202). -/
def execLd_E_n (n : Byte) (s : State) : Result := loadReg .e n 8 s

/-- `LD HL,nn` (R220). -/
def execLd_HL_nn (nn : Word) (s : State) : Result := writePair .hl nn 12 s

/-- `LD (HL+),A` (R216). -/
def execLd_atHLinc_A (s : State) : Result := storeAStep 1 s

/-- `LD H,n` (R202). -/
def execLd_H_n (n : Byte) (s : State) : Result := loadReg .h n 8 s

/-- `LD A,(HL+)` (R217). -/
def execLd_A_atHLinc (s : State) : Result := loadAStep 1 s

/-- `LD L,n` (R202). -/
def execLd_L_n (n : Byte) (s : State) : Result := loadReg .l n 8 s

/-- `LD SP,nn` (R220). -/
def execLd_SP_nn (nn : Word) (s : State) : Result := writePair .sp nn 12 s

/-- `LD (HL-),A` (R218). -/
def execLd_atHLdec_A (s : State) : Result := storeAStep (-1) s

/-- `LD (HL),n` (R205). -/
def execLd_atHL_n (n : Byte) (s : State) : Result := storeMem s.hl n 12 s

/-- `LD A,(HL-)` (R219). -/
def execLd_A_atHLdec (s : State) : Result := loadAStep (-1) s

/-- `LD A,n` (R202). -/
def execLd_A_n (n : Byte) (s : State) : Result := loadReg .a n 8 s

/-- `LD B,B` (R201). -/
def execLd_B_B (s : State) : Result := loadReg .b (s.get8 .b) 4 s

/-- `LD B,C` (R201). -/
def execLd_B_C (s : State) : Result := loadReg .b (s.get8 .c) 4 s

/-- `LD B,D` (R201). -/
def execLd_B_D (s : State) : Result := loadReg .b (s.get8 .d) 4 s

/-- `LD B,E` (R201). -/
def execLd_B_E (s : State) : Result := loadReg .b (s.get8 .e) 4 s

/-- `LD B,H` (R201). -/
def execLd_B_H (s : State) : Result := loadReg .b (s.get8 .h) 4 s

/-- `LD B,L` (R201). -/
def execLd_B_L (s : State) : Result := loadReg .b (s.get8 .l) 4 s

/-- `LD B,(HL)` (R203). -/
def execLd_B_atHL (s : State) : Result := loadMem .b s.hl 8 s

/-- `LD B,A` (R201). -/
def execLd_B_A (s : State) : Result := loadReg .b (s.get8 .a) 4 s

/-- `LD C,B` (R201). -/
def execLd_C_B (s : State) : Result := loadReg .c (s.get8 .b) 4 s

/-- `LD C,C` (R201). -/
def execLd_C_C (s : State) : Result := loadReg .c (s.get8 .c) 4 s

/-- `LD C,D` (R201). -/
def execLd_C_D (s : State) : Result := loadReg .c (s.get8 .d) 4 s

/-- `LD C,E` (R201). -/
def execLd_C_E (s : State) : Result := loadReg .c (s.get8 .e) 4 s

/-- `LD C,H` (R201). -/
def execLd_C_H (s : State) : Result := loadReg .c (s.get8 .h) 4 s

/-- `LD C,L` (R201). -/
def execLd_C_L (s : State) : Result := loadReg .c (s.get8 .l) 4 s

/-- `LD C,(HL)` (R203). -/
def execLd_C_atHL (s : State) : Result := loadMem .c s.hl 8 s

/-- `LD C,A` (R201). -/
def execLd_C_A (s : State) : Result := loadReg .c (s.get8 .a) 4 s

/-- `LD D,B` (R201). -/
def execLd_D_B (s : State) : Result := loadReg .d (s.get8 .b) 4 s

/-- `LD D,C` (R201). -/
def execLd_D_C (s : State) : Result := loadReg .d (s.get8 .c) 4 s

/-- `LD D,D` (R201). -/
def execLd_D_D (s : State) : Result := loadReg .d (s.get8 .d) 4 s

/-- `LD D,E` (R201). -/
def execLd_D_E (s : State) : Result := loadReg .d (s.get8 .e) 4 s

/-- `LD D,H` (R201). -/
def execLd_D_H (s : State) : Result := loadReg .d (s.get8 .h) 4 s

/-- `LD D,L` (R201). -/
def execLd_D_L (s : State) : Result := loadReg .d (s.get8 .l) 4 s

/-- `LD D,(HL)` (R203). -/
def execLd_D_atHL (s : State) : Result := loadMem .d s.hl 8 s

/-- `LD D,A` (R201). -/
def execLd_D_A (s : State) : Result := loadReg .d (s.get8 .a) 4 s

/-- `LD E,B` (R201). -/
def execLd_E_B (s : State) : Result := loadReg .e (s.get8 .b) 4 s

/-- `LD E,C` (R201). -/
def execLd_E_C (s : State) : Result := loadReg .e (s.get8 .c) 4 s

/-- `LD E,D` (R201). -/
def execLd_E_D (s : State) : Result := loadReg .e (s.get8 .d) 4 s

/-- `LD E,E` (R201). -/
def execLd_E_E (s : State) : Result := loadReg .e (s.get8 .e) 4 s

/-- `LD E,H` (R201). -/
def execLd_E_H (s : State) : Result := loadReg .e (s.get8 .h) 4 s

/-- `LD E,L` (R201). -/
def execLd_E_L (s : State) : Result := loadReg .e (s.get8 .l) 4 s

/-- `LD E,(HL)` (R203). -/
def execLd_E_atHL (s : State) : Result := loadMem .e s.hl 8 s

/-- `LD E,A` (R201). -/
def execLd_E_A (s : State) : Result := loadReg .e (s.get8 .a) 4 s

/-- `LD H,B` (R201). -/
def execLd_H_B (s : State) : Result := loadReg .h (s.get8 .b) 4 s

/-- `LD H,C` (R201). -/
def execLd_H_C (s : State) : Result := loadReg .h (s.get8 .c) 4 s

/-- `LD H,D` (R201). -/
def execLd_H_D (s : State) : Result := loadReg .h (s.get8 .d) 4 s

/-- `LD H,E` (R201). -/
def execLd_H_E (s : State) : Result := loadReg .h (s.get8 .e) 4 s

/-- `LD H,H` (R201). -/
def execLd_H_H (s : State) : Result := loadReg .h (s.get8 .h) 4 s

/-- `LD H,L` (R201). -/
def execLd_H_L (s : State) : Result := loadReg .h (s.get8 .l) 4 s

/-- `LD H,(HL)` (R203). -/
def execLd_H_atHL (s : State) : Result := loadMem .h s.hl 8 s

/-- `LD H,A` (R201). -/
def execLd_H_A (s : State) : Result := loadReg .h (s.get8 .a) 4 s

/-- `LD L,B` (R201). -/
def execLd_L_B (s : State) : Result := loadReg .l (s.get8 .b) 4 s

/-- `LD L,C` (R201). -/
def execLd_L_C (s : State) : Result := loadReg .l (s.get8 .c) 4 s

/-- `LD L,D` (R201). -/
def execLd_L_D (s : State) : Result := loadReg .l (s.get8 .d) 4 s

/-- `LD L,E` (R201). -/
def execLd_L_E (s : State) : Result := loadReg .l (s.get8 .e) 4 s

/-- `LD L,H` (R201). -/
def execLd_L_H (s : State) : Result := loadReg .l (s.get8 .h) 4 s

/-- `LD L,L` (R201). -/
def execLd_L_L (s : State) : Result := loadReg .l (s.get8 .l) 4 s

/-- `LD L,(HL)` (R203). -/
def execLd_L_atHL (s : State) : Result := loadMem .l s.hl 8 s

/-- `LD L,A` (R201). -/
def execLd_L_A (s : State) : Result := loadReg .l (s.get8 .a) 4 s

/-- `LD (HL),B` (R204). -/
def execLd_atHL_B (s : State) : Result := storeMem s.hl (s.get8 .b) 8 s

/-- `LD (HL),C` (R204). -/
def execLd_atHL_C (s : State) : Result := storeMem s.hl (s.get8 .c) 8 s

/-- `LD (HL),D` (R204). -/
def execLd_atHL_D (s : State) : Result := storeMem s.hl (s.get8 .d) 8 s

/-- `LD (HL),E` (R204). -/
def execLd_atHL_E (s : State) : Result := storeMem s.hl (s.get8 .e) 8 s

/-- `LD (HL),H` (R204). -/
def execLd_atHL_H (s : State) : Result := storeMem s.hl (s.get8 .h) 8 s

/-- `LD (HL),L` (R204). -/
def execLd_atHL_L (s : State) : Result := storeMem s.hl (s.get8 .l) 8 s

/-- `LD (HL),A` (R204). -/
def execLd_atHL_A (s : State) : Result := storeMem s.hl (s.get8 .a) 8 s

/-- `LD A,B` (R201). -/
def execLd_A_B (s : State) : Result := loadReg .a (s.get8 .b) 4 s

/-- `LD A,C` (R201). -/
def execLd_A_C (s : State) : Result := loadReg .a (s.get8 .c) 4 s

/-- `LD A,D` (R201). -/
def execLd_A_D (s : State) : Result := loadReg .a (s.get8 .d) 4 s

/-- `LD A,E` (R201). -/
def execLd_A_E (s : State) : Result := loadReg .a (s.get8 .e) 4 s

/-- `LD A,H` (R201). -/
def execLd_A_H (s : State) : Result := loadReg .a (s.get8 .h) 4 s

/-- `LD A,L` (R201). -/
def execLd_A_L (s : State) : Result := loadReg .a (s.get8 .l) 4 s

/-- `LD A,(HL)` (R203). -/
def execLd_A_atHL (s : State) : Result := loadMem .a s.hl 8 s

/-- `LD A,A` (R201). -/
def execLd_A_A (s : State) : Result := loadReg .a (s.get8 .a) 4 s

/-- `POP BC` (R225). -/
def execPop_BC (s : State) : Result := popPair .bc s

/-- `PUSH BC` (R224). -/
def execPush_BC (s : State) : Result := pushPair .bc s

/-- `POP DE` (R225). -/
def execPop_DE (s : State) : Result := popPair .de s

/-- `PUSH DE` (R224). -/
def execPush_DE (s : State) : Result := pushPair .de s

/-- `LDH (n),A` (R213). -/
def execLdh_atn_A (n : Byte) (s : State) : Result := storeMem (highPage n) (s.get8 .a) 12 s

/-- `POP HL` (R225). -/
def execPop_HL (s : State) : Result := popPair .hl s

/-- `LD (C),A` (R215). -/
def execLd_atC_A (s : State) : Result := storeMem (highPage (s.get8 .c)) (s.get8 .a) 8 s

/-- `PUSH HL` (R224). -/
def execPush_HL (s : State) : Result := pushPair .hl s

/-- `LD (nn),A` (R211). -/
def execLd_atnn_A (nn : Word) (s : State) : Result := storeMem nn (s.get8 .a) 16 s

/-- `LDH A,(n)` (R212). -/
def execLdh_A_atn (n : Byte) (s : State) : Result := loadMem .a (highPage n) 12 s

/-- `POP AF` (R225). -/
def execPop_AF (s : State) : Result := popPair .af s

/-- `LD A,(C)` (R214). -/
def execLd_A_atC (s : State) : Result := loadMem .a (highPage (s.get8 .c)) 8 s

/-- `PUSH AF` (R224). -/
def execPush_AF (s : State) : Result := pushPair .af s

/-- `LD HL,SP+e` (R223). -/
def execLd_HL_SPe (e : Byte) (s : State) : Result :=
  let o := addSPe s.sp e
  .next (((s.setHL o.res).spFlags o).charge 12)

/-- `LD SP,HL` (R222). -/
def execLd_SP_HL (s : State) : Result := writePair .sp s.hl 8 s

/-- `LD A,(nn)` (R210). -/
def execLd_A_atnn (nn : Word) (s : State) : Result := loadMem .a nn 16 s

end Sys2Proof.Machine
end

