-- ==== Sys2Proof/Machine/Rotate.lean ====
section
/-! DEFINITION. The rotates, shifts and nibble swap of 43_rotate_shift.md (R320-R339). One definition per row of the opcode
table, over the shared operations of Machine/Ops.lean. -/

namespace Sys2Proof.Machine

/-- `RLCA` (R320). -/
def execRlca (s : State) : Result := rotA (rlc (s.get8 .a)) s

/-- `RRCA` (R321). -/
def execRrca (s : State) : Result := rotA (rrc (s.get8 .a)) s

/-- `RLA` (R322). -/
def execRla (s : State) : Result := rotA (rl (s.get8 .a) (s.flag .c)) s

/-- `RRA` (R323). -/
def execRra (s : State) : Result := rotA (rr (s.get8 .a) (s.flag .c)) s

/-- `RLC B` (R324). -/
def execRlc_B (s : State) : Result := rotReg .rlc .b s

/-- `RLC C` (R324). -/
def execRlc_C (s : State) : Result := rotReg .rlc .c s

/-- `RLC D` (R324). -/
def execRlc_D (s : State) : Result := rotReg .rlc .d s

/-- `RLC E` (R324). -/
def execRlc_E (s : State) : Result := rotReg .rlc .e s

/-- `RLC H` (R324). -/
def execRlc_H (s : State) : Result := rotReg .rlc .h s

/-- `RLC L` (R324). -/
def execRlc_L (s : State) : Result := rotReg .rlc .l s

/-- `RLC (HL)` (R325). -/
def execRlc_atHL (s : State) : Result := rotMem .rlc s

/-- `RLC A` (R324). -/
def execRlc_A (s : State) : Result := rotReg .rlc .a s

/-- `RRC B` (R326). -/
def execRrc_B (s : State) : Result := rotReg .rrc .b s

/-- `RRC C` (R326). -/
def execRrc_C (s : State) : Result := rotReg .rrc .c s

/-- `RRC D` (R326). -/
def execRrc_D (s : State) : Result := rotReg .rrc .d s

/-- `RRC E` (R326). -/
def execRrc_E (s : State) : Result := rotReg .rrc .e s

/-- `RRC H` (R326). -/
def execRrc_H (s : State) : Result := rotReg .rrc .h s

/-- `RRC L` (R326). -/
def execRrc_L (s : State) : Result := rotReg .rrc .l s

/-- `RRC (HL)` (R327). -/
def execRrc_atHL (s : State) : Result := rotMem .rrc s

/-- `RRC A` (R326). -/
def execRrc_A (s : State) : Result := rotReg .rrc .a s

/-- `RL B` (R328). -/
def execRl_B (s : State) : Result := rotReg .rl .b s

/-- `RL C` (R328). -/
def execRl_C (s : State) : Result := rotReg .rl .c s

/-- `RL D` (R328). -/
def execRl_D (s : State) : Result := rotReg .rl .d s

/-- `RL E` (R328). -/
def execRl_E (s : State) : Result := rotReg .rl .e s

/-- `RL H` (R328). -/
def execRl_H (s : State) : Result := rotReg .rl .h s

/-- `RL L` (R328). -/
def execRl_L (s : State) : Result := rotReg .rl .l s

/-- `RL (HL)` (R329). -/
def execRl_atHL (s : State) : Result := rotMem .rl s

/-- `RL A` (R328). -/
def execRl_A (s : State) : Result := rotReg .rl .a s

/-- `RR B` (R330). -/
def execRr_B (s : State) : Result := rotReg .rr .b s

/-- `RR C` (R330). -/
def execRr_C (s : State) : Result := rotReg .rr .c s

/-- `RR D` (R330). -/
def execRr_D (s : State) : Result := rotReg .rr .d s

/-- `RR E` (R330). -/
def execRr_E (s : State) : Result := rotReg .rr .e s

/-- `RR H` (R330). -/
def execRr_H (s : State) : Result := rotReg .rr .h s

/-- `RR L` (R330). -/
def execRr_L (s : State) : Result := rotReg .rr .l s

/-- `RR (HL)` (R331). -/
def execRr_atHL (s : State) : Result := rotMem .rr s

/-- `RR A` (R330). -/
def execRr_A (s : State) : Result := rotReg .rr .a s

/-- `SLA B` (R332). -/
def execSla_B (s : State) : Result := rotReg .sla .b s

/-- `SLA C` (R332). -/
def execSla_C (s : State) : Result := rotReg .sla .c s

/-- `SLA D` (R332). -/
def execSla_D (s : State) : Result := rotReg .sla .d s

/-- `SLA E` (R332). -/
def execSla_E (s : State) : Result := rotReg .sla .e s

/-- `SLA H` (R332). -/
def execSla_H (s : State) : Result := rotReg .sla .h s

/-- `SLA L` (R332). -/
def execSla_L (s : State) : Result := rotReg .sla .l s

/-- `SLA (HL)` (R333). -/
def execSla_atHL (s : State) : Result := rotMem .sla s

/-- `SLA A` (R332). -/
def execSla_A (s : State) : Result := rotReg .sla .a s

/-- `SRA B` (R334). -/
def execSra_B (s : State) : Result := rotReg .sra .b s

/-- `SRA C` (R334). -/
def execSra_C (s : State) : Result := rotReg .sra .c s

/-- `SRA D` (R334). -/
def execSra_D (s : State) : Result := rotReg .sra .d s

/-- `SRA E` (R334). -/
def execSra_E (s : State) : Result := rotReg .sra .e s

/-- `SRA H` (R334). -/
def execSra_H (s : State) : Result := rotReg .sra .h s

/-- `SRA L` (R334). -/
def execSra_L (s : State) : Result := rotReg .sra .l s

/-- `SRA (HL)` (R335). -/
def execSra_atHL (s : State) : Result := rotMem .sra s

/-- `SRA A` (R334). -/
def execSra_A (s : State) : Result := rotReg .sra .a s

/-- `SWAP B` (R336). -/
def execSwap_B (s : State) : Result := rotReg .swap .b s

/-- `SWAP C` (R336). -/
def execSwap_C (s : State) : Result := rotReg .swap .c s

/-- `SWAP D` (R336). -/
def execSwap_D (s : State) : Result := rotReg .swap .d s

/-- `SWAP E` (R336). -/
def execSwap_E (s : State) : Result := rotReg .swap .e s

/-- `SWAP H` (R336). -/
def execSwap_H (s : State) : Result := rotReg .swap .h s

/-- `SWAP L` (R336). -/
def execSwap_L (s : State) : Result := rotReg .swap .l s

/-- `SWAP (HL)` (R337). -/
def execSwap_atHL (s : State) : Result := rotMem .swap s

/-- `SWAP A` (R336). -/
def execSwap_A (s : State) : Result := rotReg .swap .a s

/-- `SRL B` (R338). -/
def execSrl_B (s : State) : Result := rotReg .srl .b s

/-- `SRL C` (R338). -/
def execSrl_C (s : State) : Result := rotReg .srl .c s

/-- `SRL D` (R338). -/
def execSrl_D (s : State) : Result := rotReg .srl .d s

/-- `SRL E` (R338). -/
def execSrl_E (s : State) : Result := rotReg .srl .e s

/-- `SRL H` (R338). -/
def execSrl_H (s : State) : Result := rotReg .srl .h s

/-- `SRL L` (R338). -/
def execSrl_L (s : State) : Result := rotReg .srl .l s

/-- `SRL (HL)` (R339). -/
def execSrl_atHL (s : State) : Result := rotMem .srl s

/-- `SRL A` (R338). -/
def execSrl_A (s : State) : Result := rotReg .srl .a s

end Sys2Proof.Machine
end

