-- ==== Sys2Proof/Machine/System.lean ====
section
/-! DEFINITION. The system instructions of 46_system.md (R420-R424), the escape (R156) and the unpopulated slots (R158, R451). One definition per row of the opcode
table, over the shared operations of Machine/Ops.lean. -/

namespace Sys2Proof.Machine

/-- `NOP` (R420). -/
def execNop (s : State) : Result := .next (s.charge 4)

/-- `STOP` (R422). -/
def execStop (_ : Byte) (s : State) : Result := .next ({ s with mode := .stopped }.charge 4)

/-- `HALT` (R421). -/
def execHalt (s : State) : Result :=
  let p := s.pending
  if p.1 = 0x00#8 then .next ({ p.2 with mode := .halted }.charge 4)
  else if p.2.ime then .next (p.2.charge 4)
  else .next ({ p.2 with haltBug := true }.charge 4)

/-- `slot D3` (R158), unpopulated (R451). -/
def execUnpopulated_D3 (s : State) : Result := invalidSlot 0xD3#8 s

/-- `slot DB` (R158), unpopulated (R451). -/
def execUnpopulated_DB (s : State) : Result := invalidSlot 0xDB#8 s

/-- `slot DD` (R158), unpopulated (R451). -/
def execUnpopulated_DD (s : State) : Result := invalidSlot 0xDD#8 s

/-- `slot E3` (R158), unpopulated (R451). -/
def execUnpopulated_E3 (s : State) : Result := invalidSlot 0xE3#8 s

/-- `slot E4` (R158), unpopulated (R451). -/
def execUnpopulated_E4 (s : State) : Result := invalidSlot 0xE4#8 s

/-- `slot EB` (R158), unpopulated (R451). -/
def execUnpopulated_EB (s : State) : Result := invalidSlot 0xEB#8 s

/-- `slot EC` (R158), unpopulated (R451). -/
def execUnpopulated_EC (s : State) : Result := invalidSlot 0xEC#8 s

/-- `slot ED` (R158), unpopulated (R451). -/
def execUnpopulated_ED (s : State) : Result := invalidSlot 0xED#8 s

/-- `DI` (R423). -/
def execDi (s : State) : Result := .next ({ s with ime := false, eiPending := false }.charge 4)

/-- `slot F4` (R158), unpopulated (R451). -/
def execUnpopulated_F4 (s : State) : Result := invalidSlot 0xF4#8 s

/-- `EI` (R424). -/
def execEi (s : State) : Result := .next ({ s with eiPending := true }.charge 4)

/-- `slot FC` (R158), unpopulated (R451). -/
def execUnpopulated_FC (s : State) : Result := invalidSlot 0xFC#8 s

/-- `slot FD` (R158), unpopulated (R451). -/
def execUnpopulated_FD (s : State) : Result := invalidSlot 0xFD#8 s

/-- The extended instruction a selector byte names, by its fields (R142, R147, R148): group `x[7:6]`, `y = x[5:3]`,
`z = x[2:0]`. -/
def extendedEffect (x : Byte) (s : State) : Result :=
  let y : Fin 8 := (x.extractLsb' 3 3).toFin
  match x.extractLsb' 6 2, operandField (x.extractLsb' 0 3) with
  | 0#2, some r => rotReg (rotField y) r s
  | 0#2, none => rotMem (rotField y) s
  | 1#2, some r => bitReg y r s
  | 1#2, none => bitMem y s
  | 2#2, some r => changeReg (resBit · y) r s
  | 2#2, none => changeMem (resBit · y) s
  | _, some r => changeReg (setBit · y) r s
  | _, none => changeMem (setBit · y) s
where
  /-- The field `r` of R142; `none` is `(HL)`. -/
  operandField (z : BitVec 3) : Option Reg8 :=
    match z with
    | 0#3 => some .b
    | 1#3 => some .c
    | 2#3 => some .d
    | 3#3 => some .e
    | 4#3 => some .h
    | 5#3 => some .l
    | 6#3 => none
    | _ => some .a
  /-- The field `y` of group 0 (R147). -/
  rotField (y : Fin 8) : RotOp :=
    match y with
    | 0 => .rlc
    | 1 => .rrc
    | 2 => .rl
    | 3 => .rr
    | 4 => .sla
    | 5 => .sra
    | 6 => .swap
    | 7 => .srl

/-- `PREFIX CB` (R156): "read one more byte and consult the extended table". PC is the address of the byte after the
escape. The fetch never gives this row to `exec`: it reads both bytes of an extended instruction itself (R165), and the
effect is the same. -/
def execPrefixCB (s : State) : Result :=
  let b1 := s.busRead s.pc
  extendedEffect b1.1 { b1.2 with pc := b1.2.pc + 1 }

end Sys2Proof.Machine
end

