-- ==== Sys2Proof/Machine/Engine.lean ====
section
/-! DEFINITION. The Instruction Engine's tick (R162): the busy, stopped and halted ticks, and the Fetching step with
its interrupt check, staged fetch, PC advance, effect and delayed enable (R163-R173). -/

namespace Sys2Proof.Machine

/-- The address of the i-th instruction byte (R165): under the halt bug the first byte is read twice (R167). -/
def State.streamAddr (s : State) (i : Nat) : Word :=
  s.pc + BitVec.ofNat 16 i - (if i = 0 then 0x0000#16 else bitWord s.haltBug)

/-- `stream(i)` of R165: one bus read. -/
def State.stream (s : State) (i : Nat) : Byte × State := s.busRead (s.streamAddr i)

/-- What a fetch finds. -/
inductive Fetched where
  /-- An instruction whose opcode and operand bytes are all read; PC is to advance by `length` (R166). -/
  | run (i : Instr) (length : Nat)
  /-- An unpopulated slot (R158): no operand is read and PC is not advanced (R451, R453). -/
  | unpopulated (i : Instr)
  /-- One of the engine's faults, with the opcode bytes read (R450). -/
  | fault (kind : Fault) (bytes : List Byte)
  deriving DecidableEq, Repr

/-- The check of R166: `k` opcode bytes and `nops` operand bytes against the declared length of the first byte. -/
def checkLength (b0 : Byte) (k nops : Nat) (bytes : List Byte) (i : Instr) : Fetched :=
  if k + nops ≠ declaredLength b0 then .fault .malformedOperandFetch bytes else .run i (k + nops)

/-- Fetch and decode (R165) and operand fetch (R166): the opcode byte or bytes, then the operand bytes, each read once
in increasing order. Nothing but the bus traffic of other units changes (R453). -/
def fetch (s : State) : Fetched × State :=
  let r0 := s.stream 0
  match baseSlot r0.1 with
  | none => (.fault .invalidOpcode [r0.1], r0.2)
  | some (.unpopulated i) => (.unpopulated i, r0.2)
  | some (.op i) => (checkLength r0.1 1 0 [r0.1] i, r0.2)
  | some (.n8 f) => oneOperand r0 f
  | some (.e8 f) => oneOperand r0 f
  | some (.n16 f) =>
    let lo := r0.2.stream 1
    let hi := lo.2.stream 2
    (checkLength r0.1 1 2 [r0.1] (f (wordOf hi.1 lo.1)), hi.2)
  | some .escape =>
    let r1 := r0.2.stream 1
    match extSlot r1.1 with
    | none => (.fault .invalidOpcode [r0.1, r1.1], r1.2)
    | some i => (checkLength r0.1 2 0 [r0.1, r1.1] i, r1.2)
where
  /-- The one operand byte of the formats `op_n8` and `op_e8`. -/
  oneOperand (r0 : Byte × State) (f : Byte → Instr) : Fetched × State :=
    let n := r0.2.stream 1
    (checkLength r0.1 1 1 [r0.1] (f n.1), n.2)

/-- The delayed enable of R170 on what an instruction answers. -/
def afterEffect (eiBefore : Bool) (r : Result) : Result :=
  match r with
  | .next t => .next (t.lateEnable eiBefore)
  | .fault f => .fault f
  | .refused f => .refused f

/-- The instruction at PC is fetched and executed (R165-R170). At a fault neither the PC advance nor R170 happens
(R450, R453). -/
def fetchExecute (s : State) : Result :=
  match fetch s with
  | (.run i length, s') => afterEffect s.eiPending (exec i (s'.advance length))
  | (.unpopulated i, s') => exec i s'
  | (.fault kind bytes, s') => .next (s'.raise kind bytes)

/-- The Fetching step (R164): the interrupt check first. The bus is read for it only if `IRQ_DISPATCH` and IME are both
1 (notes/assumptions/13.md). -/
def fetchingStep (s : State) : Result :=
  if s.cfg.irqDispatch && s.ime then
    let p := s.pending
    if p.1 = 0x00#8 then fetchExecute p.2 else .next (p.2.dispatch p.1)
  else fetchExecute s

/-- Busy tick (R163). -/
def busyTick (s : State) : State := { s with cyclesRemaining := s.cyclesRemaining - 1 }

/-- Halted tick (R171): it reads IE and IF, and wakes if a source is enabled and requested, whatever IME is. -/
def haltedTick (s : State) : State :=
  let p := s.pending
  if p.1 = 0x00#8 then p.2 else { p.2 with mode := .running }

/-- `tick()` of the Instruction Engine (R162), tested in R162's order. -/
def engineTick (s : State) : Result :=
  match s.mode with
  | .faulted _ => .next s
  | mode =>
    if s.cyclesRemaining > 0 then .next (busyTick s)
    else
      match mode with
      | .stopped => .next s
      | .halted => .next (haltedTick s)
      | _ => fetchingStep s

end Sys2Proof.Machine
end

