-- ==== Sys2Proof/Machine/Scheduler.lean ====
section
/-! DEFINITION. The Clock Scheduler (R480-R491): the dispatch test, the interleaving of one sub-cycle's bus accesses
(R115), the barrier with its fault report and exclusion (R485, R488), and one round of the loop of R483. -/

namespace Sys2Proof.Machine

/-- The divisor of a unit (R480, R481); `none` where the list has no such unit. -/
def Sched.divisor? (c : Sched) (u : UnitId) : Option Nat :=
  match u with
  | .engine => some Config.cpuDivisor
  | .placeholder i => (c.placeholders[i]?).map fun p => p.divisor.toNat

/-- The dispatch test (R483, R484): the unit exists, is not excluded, and its divisor divides `sub`. -/
def Sched.dispatches (c : Sched) (u : UnitId) : Bool :=
  match c.divisor? u with
  | none => false
  | some d => !c.excluded.contains u && decide (c.sub.val % d = 0)

/-- The accesses the next tick of a placeholder makes (R482). -/
def Placeholder.tickWork (p : Placeholder) : List Access := p.work.headD []

/-- The placeholder once that tick has been dispatched. -/
def Placeholder.ticked (p : Placeholder) : Placeholder := { p with work := p.work.tail }

/-- For each placeholder, from place `from` of the list on, the accesses it makes in this sub-cycle: none where it is
not dispatched. -/
def Sched.workFrom (c : Sched) (start : Nat) : List Placeholder → List (List Access)
  | [] => []
  | p :: rest =>
    (if c.dispatches (.placeholder start) then p.tickWork else []) :: Sched.workFrom c (start + 1) rest

/-- The placeholders once the dispatched ones among them have ticked. -/
def Sched.tickedFrom (c : Sched) (start : Nat) : List Placeholder → List Placeholder
  | [] => []
  | p :: rest =>
    (if c.dispatches (.placeholder start) then p.ticked else p) :: Sched.tickedFrom c (start + 1) rest

/-- The other units' accesses of one sub-cycle, in place among the engine's: the gaps before each engine access, and
what is left for after the engine's tick. -/
structure Woven where
  gaps : List (List Access)
  after : List Access
  deriving DecidableEq, Repr

/-- A gap in front of the others; trailing empty gaps are not listed. -/
def consGap (gap : List Access) (gaps : List (List Access)) : List (List Access) :=
  if gap.isEmpty && gaps.isEmpty then [] else gap :: gaps

/-- The interleaving an order stands for (R115 b): each entry is the next access of that unit, and each unit's own
order is kept. When the order is used up, the engine makes its remaining accesses, then the other units theirs. `gap`
is what has been made since the engine's last access. -/
def weave : List UnitId → List (List Access) → List Access → Woven
  | [], work, gap => { gaps := consGap gap [], after := work.flatten }
  | .engine :: order, work, gap =>
    let w := weave order work []
    { w with gaps := consGap gap w.gaps }
  | .placeholder i :: order, work, gap =>
    match work[i]? with
    | some (access :: more) => weave order (work.set i more) (gap ++ [access])
    | _ => weave order work gap

/-- The accesses of this sub-cycle, woven. -/
def Sched.woven (c : Sched) : Woven := weave (c.orders.headD []) (c.workFrom 0 c.placeholders) []

/-- The ticks of R483's set D start: the dispatched placeholders' accesses are laid among the engine's. -/
def State.startSubcycle (s : State) : State :=
  { s with
    bus := { s.bus with gaps := s.bus.gaps ++ s.sched.woven.gaps }
    sched := { s.sched with
      placeholders := s.sched.tickedFrom 0 s.sched.placeholders
      orders := s.sched.orders.tail } }

/-- The mode is Faulted. -/
def Mode.isFaulted : Mode → Bool
  | .faulted _ => true
  | _ => false

/-- The fault signal a tick returns (R450): the record, if this tick entered Faulted. -/
def faultSignal (before after : State) : Option FaultRecord :=
  if !before.mode.isFaulted && after.mode.isFaulted then after.fault else none

/-- A unit whose tick returned a fault is excluded and reported once (R483, R488). -/
def Sched.exclude (c : Sched) (u : UnitId) (signal : Option FaultRecord) : Sched :=
  match signal with
  | none => c
  | some record =>
    { c with excluded := u :: c.excluded, reports := c.reports ++ [{ source := u, record := record }] }

/-- `if sub == 3: sub <- 0; macro <- macro + 1 else: sub <- sub + 1` (R483). -/
def Sched.advance (c : Sched) : Sched :=
  if c.sub = 3 then { c with sub := 0, macroStep := c.macroStep + 1 } else { c with sub := c.sub + 1 }

/-- The barrier (R485): every outstanding access is made, in order, then `after`; the fault is reported, and the
counters advance. -/
def State.barrier (s : State) (after : List Access) (signal : Option FaultRecord) : State :=
  let drained := s.bus.drain
  { s with
    bus := { drained with mem := drained.mem.applyAll after }
    sched := (s.sched.exclude .engine signal).advance }

/-- One round of the loop of R483: the dispatch of one sub-cycle and its barrier. -/
def subcycle (s : State) : Result :=
  let started := s.startSubcycle
  let after := s.sched.woven.after
  if s.sched.dispatches .engine then
    match engineTick started with
    | .next t => .next (t.barrier after (faultSignal started t))
    | .fault f => .fault f
    | .refused f => .refused f
  else .next (started.barrier after none)

/-- The sub-cycles completed so far: the completion counter of R485. -/
def State.completed (s : State) : Nat := 4 * s.sched.macroStep + s.sched.sub.val

end Sys2Proof.Machine
end

