-- ==== Sys2Proof/Machine/Step.lean ====
section
/-! DEFINITION. One step of the machine, and the placing of an instruction where the next step fetches. -/

namespace Sys2Proof.Machine

/-- One step: one sub-cycle of the Clock Scheduler (R483; notes/assumptions/3.md). -/
def step (s : State) : Host.Outcome State Fault Refusal := subcycle s

/-- The state with an instruction of the opcode table stored where the next step fetches (R165): its bytes at PC, and
whatever would keep that step from fetching them set aside (notes/assumptions/14.md). At `State.reset` only the bytes
change. -/
def State.withFetchWord (s : State) (nbits w : Nat) : State :=
  let mem := s.bus.mem.writeRange s.pc (tableBytes nbits w)
  let requested := pendingOf (mem.read ieAddr) (mem.read ifAddr)
  { s with
    bus := { mem := mem, gaps := [] }
    mode := .running
    fault := none
    haltBug := false
    cyclesRemaining := 0
    ime := s.ime && !(s.cfg.irqDispatch && decide (requested ≠ 0x00#8))
    sched := { s.sched with
      sub := 0
      excluded := s.sched.excluded.filter fun u => decide (u ≠ .engine)
      orders := if s.sched.orders.isEmpty then [] else [] :: s.sched.orders.tail } }

end Sys2Proof.Machine
end

