-- ==== Sys2Proof/Machine/Launch.lean ====
section
/-! DEFINITION. The launch (R498, R530) and a run to its bound (R483, R490): the parameters of R7 a launch fixes, the
state at the first sub-cycle, and the scheduler's loop. -/

namespace Sys2Proof.Machine

/-- What a launch fixes (R7, R498): `INIT_MEM`, `BOOT_IMAGE`, `PLACEHOLDERS`, the interleavings R115 leaves open, and
the switches. -/
structure Launch where
  initMem : Memory
  bootStart : Word
  bootBytes : List Byte
  placeholders : List Placeholder
  orders : List (List UnitId)
  cfg : Config
  deriving DecidableEq, Repr

/-- A launch of this machine: `INIT_MEM` in canonical form, and a boot image no longer than the bus (R113). -/
def Launch.wf (p : Launch) : Bool := p.initMem.wf && decide (p.bootBytes.length ≤ Config.busSize)

/-- The state at the first sub-cycle (R530, R531): the engine constructed, the bus holding `INIT_MEM` overlaid with the
boot image by one `writeRange` (R113), the scheduler at its start. -/
def State.launch (p : Launch) : State :=
  { State.reset with
    bus := { mem := p.initMem.writeRange p.bootStart p.bootBytes, gaps := [] }
    sched := Sched.initial p.placeholders p.orders
    cfg := p.cfg }

/-- The loop of R483 with `MACRO_BOUND = bound`, for at most `fuel` rounds. -/
def runLoop (bound : Nat) : Nat → State → Result
  | 0, s => .next s
  | fuel + 1, s =>
    if s.sched.macroStep < bound then
      match step s with
      | .next t => runLoop bound fuel t
      | .fault f => .fault f
      | .refused f => .refused f
    else .next s

/-- A run from a state at the start of a macro-step, to `MACRO_BOUND = bound` (R490): the loop makes four rounds a
macro-step, so `4 * bound` rounds are enough. -/
def run (bound : Nat) (s : State) : Result := runLoop bound (Config.subcycles * bound) s

end Sys2Proof.Machine
end

