-- ==== Sys2Proof/Safety.lean ====
section
/-! DEFINITION. What the claims are stated in: completing with a property, the frame of an instruction, its cost, the
operand forms of the ALU, and the invariant of every run. -/

namespace Sys2Proof

/-- The two registers a pair field names; none for SP (R143). -/
def PairRR.regs : PairRR → List Reg8
  | .bc => [.b, .c]
  | .de => [.d, .e]
  | .hl => [.h, .l]
  | .sp => []

end Sys2Proof

namespace Sys2Proof.Machine

/-- The instruction completes, in a next state of which `P` holds. -/
def Completes (i : Instr) (s : State) (P : State → Prop) : Prop := ∃ t, exec i s = .next t ∧ P t

/-- The bus as it stands between the engine's accesses "with no other unit touching the bus" (R114): its bytes in
canonical form, and no access of another unit outstanding. Both are part of `State.Inv`. -/
structure State.BusReady (s : State) : Prop where
  memWf : s.bus.mem.wf = true
  quiet : s.bus.gaps = []

/-- The engine's latches, mode and fault record, the scheduler and the switches are as before. -/
structure KeepsEngine (s t : State) : Prop where
  ime : t.ime = s.ime
  eiPending : t.eiPending = s.eiPending
  haltBug : t.haltBug = s.haltBug
  mode : t.mode = s.mode
  fault : t.fault = s.fault
  sched : t.sched = s.sched
  cfg : t.cfg = s.cfg

/-- What an instruction leaves: every 8-bit register but those named (F is the flags' own), every flag but those named
and F's bits 3..0 (R40, R41), every byte of memory but those at the addresses named, and no outstanding access of
another unit consumed or added. -/
structure Frame (regs : List Reg8) (flags : List Flag) (stored : List Word) (s t : State) : Prop where
  regs : ∀ r, r ≠ .f → r ∉ regs → t.get8 r = s.get8 r
  flags : ∀ g, g ∉ flags → t.flag g = s.flag g
  lowF : t.get8 .f &&& 0x0F#8 = s.get8 .f &&& 0x0F#8
  mem : ∀ a, a ∉ stored → t.bus.mem.read a = s.bus.mem.read a
  gaps : t.bus.gaps = s.bus.gaps

/-- The cycle debt of an instruction of `cost` T-cycles (R169): N - 1 engine ticks, or N under `BUSY_AFTER = N`, with
`N = cost / 4`. -/
def Costs (cost : Nat) (s t : State) : Prop :=
  (s.cfg.busyAfter = .nMinusOne → t.cyclesRemaining + 1 = cost / 4) ∧
  (s.cfg.busyAfter = .n → t.cyclesRemaining = cost / 4)

/-- An instruction that writes registers and flags alone: SP and PC (the next instruction's address, R166) stay. -/
structure DataOnly (regs : List Reg8) (flags : List Flag) (stored : List Word) (cost : Nat) (s t : State) : Prop where
  frame : Frame regs flags stored s t
  sp : t.sp = s.sp
  pc : t.pc = s.pc
  engine : KeepsEngine s t
  cost : Costs cost s t

/-- The three operand forms of the ALU operations (41_alu8.md): a register, the byte at HL, an immediate. -/
inductive AluForm where
  | reg (r : OpReg)
  | atHL
  | imm (n : Byte)
  deriving DecidableEq, Repr

/-- The row of the table an ALU operation has in a form. -/
def AluForm.instr (op : AluOp) : AluForm → Instr
  | .reg r => Instr.aluR op r
  | .atHL => Instr.aluAtHL op
  | .imm n => Instr.aluN op n

/-- `src` of 41_alu8.md. -/
def AluForm.source (s : State) : AluForm → Byte
  | .reg r => s.get8 r.reg
  | .atHL => s.bus.mem.read s.hl
  | .imm n => n

/-- The cost of the form in T-cycles (R251-R274). -/
def AluForm.cost : AluForm → Nat
  | .reg _ => 4
  | .atHL => 8
  | .imm _ => 8

/-- What every run keeps between steps: the memory in canonical form and no access outstanding (R485); the fault record,
the mode, the exclusion and the report in step with one another (R49, R450, R488); a fault only from the eleven slots
of R158, with PC at the slot (R451-R453); the halt bug only where a fetch is to come (R47) or is frozen by a fault
(R453); the debt bounded by the longest instruction (R545); F's low nibble zero where direct writes zero it (R40). -/
structure State.Inv (s : State) : Prop where
  memWf : s.bus.mem.wf = true
  quiet : s.bus.gaps = []
  noFaultMode : s.fault = none → s.mode.isFaulted = false
  faultMode : ∀ r, s.fault = some r → s.mode = .faulted .invalidOpcode ∧ r.kind = .invalidOpcode
  faultPlace : ∀ r, s.fault = some r → r.pc = s.pc ∧ r.bytes ∈ Instr.unpopulatedSlots.map fun slot => [slot.1]
  faultIdle : s.fault.isSome = true → s.cyclesRemaining = 0
  excluded : s.sched.excluded = if s.fault.isSome then [.engine] else []
  reported : s.sched.reports = (s.fault.map fun r => { source := .engine, record := r }).toList
  debt : s.cyclesRemaining ≤ 6
  haltBugRuns : s.haltBug = true → s.mode = .running ∨ s.fault.isSome = true
  lowF : s.cfg.fLowMode = .zero → s.get8 .f &&& 0x0F#8 = 0x00#8

/-- In how many of the next `n` steps a unit is dispatched (R483, R484). -/
def dispatchCount (u : UnitId) : Nat → State → Nat
  | 0, _ => 0
  | n + 1, s =>
    (if s.sched.dispatches u then 1 else 0) +
      match step s with
      | .next t => dispatchCount u n t
      | _ => 0

end Sys2Proof.Machine
end

