-- ==== Sys2Proof/Certificates/Slice0/Obligations.lean ====
section
/-! DEFINITION. The statements for the provers. Each formalises the rules of spec/ its docstring names; `Runs` says of
a form its rule's encoding and that it completes. Where a statement is about memory it asks for `State.BusReady`: the
memory in canonical form and no other unit's access falling among the engine's (R114); both are part of the invariant
that `StepKeepsInvariant` states. -/

open Sys2Proof Sys2Proof.Machine

namespace Sys2Proof.Claims

/-- A byte by its number. -/
abbrev byte (n : Nat) : Byte := BitVec.ofNat 8 n

/-- The code of a register field (R142); 6 is `(HL)`. -/
def regCode : OpReg → Nat
  | .b => 0 | .c => 1 | .d => 2 | .e => 3 | .h => 4 | .l => 5 | .a => 7

/-- The code of the pair field `rr` (R143). -/
def rrCode : PairRR → Nat
  | .bc => 0 | .de => 1 | .hl => 2 | .sp => 3

/-- The code of the pair field `qq` (R144). -/
def qqCode : PairQQ → Nat
  | .bc => 0 | .de => 1 | .hl => 2 | .af => 3

/-- The code of the condition field `cc` (R145). -/
def ccCode : Cond → Nat
  | .nz => 0 | .z => 1 | .nc => 2 | .c => 3

/-- The code of the ALU field `ooo` (R146). -/
def aluCode : AluOp → Nat
  | .add => 0 | .adc => 1 | .sub => 2 | .sbc => 3 | .and => 4 | .xor => 5 | .or => 6 | .cp => 7

/-- The code of the rotate and shift field `y` (R147). -/
def rotCode : RotOp → Nat
  | .rlc => 0 | .rrc => 1 | .rl => 2 | .rr => 3 | .sla => 4 | .sra => 5 | .swap => 6 | .srl => 7

/-- The bytes of an ALU operation in a form (R251-R274): `10 ooo sss`, or `11 ooo 110` and the immediate. -/
def aluBytes (op : AluOp) : AluForm → List Byte
  | .reg r => [byte (0b10000000 + 8 * aluCode op + regCode r)]
  | .atHL => [byte (0b10000110 + 8 * aluCode op)]
  | .imm n => [byte (0b11000110 + 8 * aluCode op), n]

/-- The Encoding line of an instruction's rule: the bytes, whatever follows them, decode to the instruction. -/
def EncodedAs (bytes : List Byte) (i : Instr) : Prop := ∀ rest, decode (bytes ++ rest) = .ok (i, rest)

/-- The instruction has this encoding and completes, in a next state of which `P` holds. -/
def Runs (bytes : List Byte) (i : Instr) (s : State) (P : State → Prop) : Prop :=
  EncodedAs bytes i ∧ Completes i s P

/-- The flags a sum of two bytes and a carry-in leaves (R55, R254), over the exact numbers. -/
def SumFlags (t : State) (a b cin : Nat) : Prop :=
  (t.flag .z = true ↔ (a + b + cin) % 256 = 0) ∧ t.flag .n = false ∧
  (t.flag .h = true ↔ a % 16 + b % 16 + cin > 15) ∧ (t.flag .c = true ↔ a + b + cin > 255)

/-- The flags a difference of two bytes and a borrow-in leaves (R56, R260), over the exact numbers. -/
def DiffFlags (t : State) (a b cin : Nat) : Prop :=
  (t.flag .z = true ↔ (a + 512 - b - cin) % 256 = 0) ∧ t.flag .n = true ∧
  (t.flag .h = true ↔ a % 16 < b % 16 + cin) ∧ (t.flag .c = true ↔ a < b + cin)

/-- The result number and the bit shifted out of an extended rotate or shift of the number `v` (R64-R66, R147). -/
def shiftNumber (op : RotOp) (v cin : Nat) : Nat × Bool :=
  match op with
  | .rlc => (v * 2 % 256 + v / 128, decide (v ≥ 128))
  | .rrc => (v / 2 + 128 * (v % 2), decide (v % 2 = 1))
  | .rl => (v * 2 % 256 + cin, decide (v ≥ 128))
  | .rr => (v / 2 + 128 * cin, decide (v % 2 = 1))
  | .sla => (v * 2 % 256, decide (v ≥ 128))
  | .sra => (v / 2 + 128 * (v / 128), decide (v % 2 = 1))
  | .swap => (v % 16 * 16 + v / 16, false)
  | .srl => (v / 2, decide (v % 2 = 1))

/-- The flags a rotate or shift leaves: Z as said, N and H clear, C the bit shifted out (R320-R339). -/
def ShiftFlags (t : State) (z cout : Bool) : Prop :=
  t.flag .z = z ∧ t.flag .n = false ∧ t.flag .h = false ∧ t.flag .c = cout

/-- A value's negation where its bit is wanted clear: the value a flag condition tests (R42). -/
def holds (s : State) : Cond → Prop
  | .nz => s.flag .z = false
  | .z => s.flag .z = true
  | .nc => s.flag .c = false
  | .c => s.flag .c = true

/-- A transfer of control that touches no register, flag, memory byte or stack. -/
def JumpsTo (target : Word) (cost : Nat) (s t : State) : Prop :=
  t.pc = target ∧ t.sp = s.sp ∧ Frame [] [] [] s t ∧ KeepsEngine s t ∧ Costs cost s t

/-- A call: the address of the next instruction stands below the old stack top, high byte at the higher address (R107),
and PC is the target. -/
def CallsTo (target : Word) (cost : Nat) (s t : State) : Prop :=
  t.pc = target ∧ t.sp = s.sp - 2 ∧
  t.bus.mem.read (s.sp - 1) = hiByte s.pc ∧ t.bus.mem.read (s.sp - 2) = loByte s.pc ∧
  Frame [] [] [s.sp - 1, s.sp - 2] s t ∧ KeepsEngine s t ∧ Costs cost s t

/-- A return: PC is the word at the stack top (R108), which SP leaves. -/
def ReturnsFrom (cost : Nat) (s t : State) : Prop :=
  t.pc = wordOf (s.bus.mem.read (s.sp + 1)) (s.bus.mem.read s.sp) ∧ t.sp = s.sp + 2 ∧
  Frame [] [] [] s t ∧ Costs cost s t

/-- The engine's own state is as before: registers, PC, SP, latches, mode, debt, fault record. -/
structure EngineFrozen (s t : State) : Prop where
  regs : t.regs = s.regs
  pc : t.pc = s.pc
  sp : t.sp = s.sp
  ime : t.ime = s.ime
  eiPending : t.eiPending = s.eiPending
  haltBug : t.haltBug = s.haltBug
  mode : t.mode = s.mode
  cyclesRemaining : t.cyclesRemaining = s.cyclesRemaining
  fault : t.fault = s.fault

/-- The sources enabled and requested, as the bus holds them (R471). -/
def requested (s : State) : Byte := s.bus.mem.read 0xFFFF#16 &&& s.bus.mem.read 0xFF0F#16 &&& 0x1F#8

/-- The engine is to fetch (R162, R164): Running, out of debt, and no interrupt to dispatch. -/
structure Fetching (s : State) : Prop where
  running : s.mode = .running
  due : s.cyclesRemaining = 0
  noInterrupt : s.cfg.irqDispatch = false ∨ s.ime = false ∨ requested s = 0x00#8

/-- The three bytes the fetch's stream starts with (R165): under the halt bug the first is read twice (R167). -/
def streamBytes (s : State) : List Byte :=
  if s.haltBug then [s.bus.mem.read s.pc, s.bus.mem.read s.pc, s.bus.mem.read (s.pc + 1)]
  else [s.bus.mem.read s.pc, s.bus.mem.read (s.pc + 1), s.bus.mem.read (s.pc + 2)]

/-- The cost map of R545 for the base opcodes, row by row: the cost where a condition is met; 0 for no instruction. -/
def baseCosts : List (List Nat) :=
  [[4, 12, 8, 8, 4, 4, 8, 4, 20, 8, 8, 8, 4, 4, 8, 4], [4, 12, 8, 8, 4, 4, 8, 4, 12, 8, 8, 8, 4, 4, 8, 4],
   [12, 12, 8, 8, 4, 4, 8, 4, 12, 8, 8, 8, 4, 4, 8, 4], [12, 12, 8, 8, 12, 12, 12, 4, 12, 8, 8, 8, 4, 4, 8, 4],
   [4, 4, 4, 4, 4, 4, 8, 4, 4, 4, 4, 4, 4, 4, 8, 4], [4, 4, 4, 4, 4, 4, 8, 4, 4, 4, 4, 4, 4, 4, 8, 4],
   [4, 4, 4, 4, 4, 4, 8, 4, 4, 4, 4, 4, 4, 4, 8, 4], [8, 8, 8, 8, 8, 8, 4, 8, 4, 4, 4, 4, 4, 4, 8, 4],
   [4, 4, 4, 4, 4, 4, 8, 4, 4, 4, 4, 4, 4, 4, 8, 4], [4, 4, 4, 4, 4, 4, 8, 4, 4, 4, 4, 4, 4, 4, 8, 4],
   [4, 4, 4, 4, 4, 4, 8, 4, 4, 4, 4, 4, 4, 4, 8, 4], [4, 4, 4, 4, 4, 4, 8, 4, 4, 4, 4, 4, 4, 4, 8, 4],
   [20, 12, 16, 16, 24, 16, 8, 16, 20, 16, 16, 0, 24, 24, 8, 16],
   [20, 12, 16, 0, 24, 16, 8, 16, 20, 16, 16, 0, 24, 0, 8, 16],
   [12, 12, 8, 0, 0, 16, 8, 16, 16, 4, 16, 0, 0, 0, 8, 16], [12, 12, 8, 4, 0, 16, 8, 16, 12, 8, 16, 4, 0, 0, 8, 16]]

/-- The conditional opcodes of R545: the opcode, the cost where its condition is not met, the condition. -/
def notTakenCosts : List (Nat × Nat × Cond) :=
  [(0x20, 8, .nz), (0x28, 8, .z), (0x30, 8, .nc), (0x38, 8, .c), (0xC0, 8, .nz), (0xC8, 8, .z), (0xD0, 8, .nc),
   (0xD8, 8, .c), (0xC2, 12, .nz), (0xCA, 12, .z), (0xD2, 12, .nc), (0xDA, 12, .c), (0xC4, 12, .nz),
   (0xCC, 12, .z), (0xD4, 12, .nc), (0xDC, 12, .c)]

/-- No placeholder makes an access in this sub-cycle. -/
def OthersIdle (s : State) : Prop := ∀ p ∈ s.sched.placeholders, p.tickWork = []

end Sys2Proof.Claims

open Sys2Proof.Claims

/-! ### Register file and flags -/

/-- R33, R34: what is written to a pair as one 16-bit value is read back from it, and its two registers hold the high
and the low byte; F among them under `AS_WRITTEN`. Every other register is as before. -/
def Obligations.PairViewReadsBackWhatIsSplit : Prop :=
  ∀ (s : State) (v : Word) (hi lo : Reg8), hi ≠ lo → (s.cfg.fLowMode = .asWritten ∨ (hi ≠ .f ∧ lo ≠ .f)) →
    (s.splitInto v hi lo).combine hi lo = v ∧
    ((s.splitInto v hi lo).get8 hi).toNat = v.toNat / 256 ∧
    ((s.splitInto v hi lo).get8 lo).toNat = v.toNat % 256 ∧
    ∀ r, r ≠ hi → r ≠ lo → (s.splitInto v hi lo).get8 r = s.get8 r

/-- R41: a bulk flag write gives each flag it names its value and leaves every flag it does not name, and F's bits 3..0,
as they are. -/
def Obligations.FlagWriteChangesOnlyNamedFlags : Prop :=
  ∀ (s : State) (u : FlagWrite),
    (s.setFlags u).flag .z = u.z.getD (s.flag .z) ∧ (s.setFlags u).flag .n = u.n.getD (s.flag .n) ∧
    (s.setFlags u).flag .h = u.h.getD (s.flag .h) ∧ (s.setFlags u).flag .c = u.c.getD (s.flag .c) ∧
    (s.setFlags u).get8 .f &&& 0x0F#8 = s.get8 .f &&& 0x0F#8

/-! ### Loads, stores and stack transfers -/

/-- R201, R202, R203: `LD r,r'`, `LD r,n` and `LD r,(HL)`, the last through the old HL also where r is H or L. -/
def Obligations.LoadRegister : Prop :=
  ∀ (dst : OpReg) (s : State),
    (∀ src : OpReg, Runs [byte (0b01000000 + 8 * regCode dst + regCode src)] (Instr.ldRR dst src) s fun t =>
      t.get8 dst.reg = s.get8 src.reg ∧ DataOnly [dst.reg] [] [] 4 s t) ∧
    (∀ n : Byte, Runs [byte (0b00000110 + 8 * regCode dst), n] (Instr.ldRN dst n) s fun t =>
      t.get8 dst.reg = n ∧ DataOnly [dst.reg] [] [] 8 s t) ∧
    (s.BusReady → Runs [byte (0b01000110 + 8 * regCode dst)] (Instr.ldRAtHL dst) s fun t =>
      t.get8 dst.reg = s.bus.mem.read (wordOf (s.get8 .h) (s.get8 .l)) ∧ DataOnly [dst.reg] [] [] 8 s t)

/-- R204, R205: `LD (HL),r` and `LD (HL),n`. -/
def Obligations.StoreAtHL : Prop :=
  ∀ (s : State), s.BusReady →
    (∀ r : OpReg, Runs [byte (0b01110000 + regCode r)] (Instr.ldAtHLR r) s fun t =>
      t.bus.mem.read s.hl = s.get8 r.reg ∧ DataOnly [] [] [s.hl] 8 s t) ∧
    (∀ n : Byte, Runs [0x36, n] (.ld_atHL_n n) s fun t =>
      t.bus.mem.read s.hl = n ∧ DataOnly [] [] [s.hl] 12 s t)

/-- R206, R207, R210, R212, R214, R217, R219: the loads of A; the last two step HL and set no flag. -/
def Obligations.LoadAccumulatorFromMemory : Prop :=
  ∀ (s : State), s.BusReady →
    Runs [0x0A] .ld_A_atBC s (fun t => t.get8 .a = s.bus.mem.read s.bc ∧ DataOnly [.a] [] [] 8 s t) ∧
    Runs [0x1A] .ld_A_atDE s (fun t => t.get8 .a = s.bus.mem.read s.de ∧ DataOnly [.a] [] [] 8 s t) ∧
    (∀ nn, Runs [0xFA, loByte nn, hiByte nn] (.ld_A_atnn nn) s fun t =>
      t.get8 .a = s.bus.mem.read nn ∧ DataOnly [.a] [] [] 16 s t) ∧
    (∀ n, Runs [0xF0, n] (.ldh_A_atn n) s fun t =>
      t.get8 .a = s.bus.mem.read (0xFF00#16 + n.setWidth 16) ∧ DataOnly [.a] [] [] 12 s t) ∧
    Runs [0xF2] .ld_A_atC s (fun t =>
      t.get8 .a = s.bus.mem.read (0xFF00#16 + (s.get8 .c).setWidth 16) ∧ DataOnly [.a] [] [] 8 s t) ∧
    Runs [0x2A] .ld_A_atHLinc s (fun t =>
      t.get8 .a = s.bus.mem.read s.hl ∧ t.hl = s.hl + 1 ∧ DataOnly [.a, .h, .l] [] [] 8 s t) ∧
    Runs [0x3A] .ld_A_atHLdec s (fun t =>
      t.get8 .a = s.bus.mem.read s.hl ∧ t.hl = s.hl - 1 ∧ DataOnly [.a, .h, .l] [] [] 8 s t)

/-- R208, R209, R211, R213, R215, R216, R218: the stores of A; the last two step HL and set no flag. -/
def Obligations.StoreAccumulatorToMemory : Prop :=
  ∀ (s : State), s.BusReady →
    Runs [0x02] .ld_atBC_A s (fun t => t.bus.mem.read s.bc = s.get8 .a ∧ DataOnly [] [] [s.bc] 8 s t) ∧
    Runs [0x12] .ld_atDE_A s (fun t => t.bus.mem.read s.de = s.get8 .a ∧ DataOnly [] [] [s.de] 8 s t) ∧
    (∀ nn, Runs [0xEA, loByte nn, hiByte nn] (.ld_atnn_A nn) s fun t =>
      t.bus.mem.read nn = s.get8 .a ∧ DataOnly [] [] [nn] 16 s t) ∧
    (∀ n, Runs [0xE0, n] (.ldh_atn_A n) s fun t =>
      t.bus.mem.read (0xFF00#16 + n.setWidth 16) = s.get8 .a ∧
        DataOnly [] [] [0xFF00#16 + n.setWidth 16] 12 s t) ∧
    Runs [0xE2] .ld_atC_A s (fun t =>
      t.bus.mem.read (0xFF00#16 + (s.get8 .c).setWidth 16) = s.get8 .a ∧
        DataOnly [] [] [0xFF00#16 + (s.get8 .c).setWidth 16] 8 s t) ∧
    Runs [0x22] .ld_atHLinc_A s (fun t =>
      t.bus.mem.read s.hl = s.get8 .a ∧ t.hl = s.hl + 1 ∧ DataOnly [.h, .l] [] [s.hl] 8 s t) ∧
    Runs [0x32] .ld_atHLdec_A s (fun t =>
      t.bus.mem.read s.hl = s.get8 .a ∧ t.hl = s.hl - 1 ∧ DataOnly [.h, .l] [] [s.hl] 8 s t)

/-- R220, R222: `LD rr,nn` and `LD SP,HL`. A pair's registers are written, or SP alone. -/
def Obligations.LoadPairOrStackPointer : Prop :=
  ∀ (s : State),
    (∀ (p : PairRR) (nn : Word),
      Runs [byte (0b00000001 + 16 * rrCode p), loByte nn, hiByte nn] (Instr.ldRRNN p nn) s fun t =>
      t.getRR p = nn ∧ t.sp = (if p = .sp then nn else s.sp) ∧ t.pc = s.pc ∧
      Frame p.regs [] [] s t ∧ KeepsEngine s t ∧ Costs 12 s t) ∧
    Runs [0xF9] .ld_SP_HL s (fun t =>
      t.sp = wordOf (s.get8 .h) (s.get8 .l) ∧ t.pc = s.pc ∧ Frame [] [] [] s t ∧ KeepsEngine s t ∧ Costs 8 s t)

/-- R221: `LD (nn),SP` writes SP's low byte at nn and its high byte at nn + 1, modulo 2^16. -/
def Obligations.StoreStackPointerLittleEndian : Prop :=
  ∀ (s : State) (nn : Word), s.BusReady → Runs [0x08, loByte nn, hiByte nn] (.ld_atnn_SP nn) s fun t =>
    (t.bus.mem.read nn).toNat = s.sp.toNat % 256 ∧ (t.bus.mem.read (nn + 1)).toNat = s.sp.toNat / 256 ∧
    DataOnly [] [] [nn, nn + 1] 20 s t

/-- R223, R301: `LD HL,SP+e` and `ADD SP,e`: the offset is signed, Z and N are cleared, H and C come from the unsigned
sums of SP's low byte. -/
def Obligations.SignedOffsetFromStackPointer : Prop :=
  ∀ (s : State) (e : Byte),
    Runs [0xF8, e] (.ld_HL_SPe e) s (fun t =>
      (t.hl.toNat : Int) = ((s.sp.toNat : Int) + e.toInt) % 65536 ∧
      t.flag .z = false ∧ t.flag .n = false ∧
      (t.flag .h = true ↔ s.sp.toNat % 16 + e.toNat % 16 > 15) ∧
      (t.flag .c = true ↔ s.sp.toNat % 256 + e.toNat > 255) ∧
      DataOnly [.h, .l] [.z, .n, .h, .c] [] 12 s t) ∧
    Runs [0xE8, e] (.add_SP_e e) s (fun t =>
      (t.sp.toNat : Int) = ((s.sp.toNat : Int) + e.toInt) % 65536 ∧
      t.flag .z = false ∧ t.flag .n = false ∧
      (t.flag .h = true ↔ s.sp.toNat % 16 + e.toNat % 16 > 15) ∧
      (t.flag .c = true ↔ s.sp.toNat % 256 + e.toNat > 255) ∧
      t.pc = s.pc ∧ Frame [] [.z, .n, .h, .c] [] s t ∧ KeepsEngine s t ∧ Costs 16 s t)

/-- R224, R107: `PUSH qq`: SP drops by 2, the high register stands at SP + 1 and the low register at SP. -/
def Obligations.PushStoresPairBelowStackTop : Prop :=
  ∀ (s : State) (q : PairQQ), s.BusReady → Runs [byte (0b11000101 + 16 * qqCode q)] (Instr.pushQQ q) s fun t =>
    t.sp = s.sp - 2 ∧ t.bus.mem.read (s.sp - 1) = hiByte (s.getQQ q) ∧
    t.bus.mem.read (s.sp - 2) = loByte (s.getQQ q) ∧ t.pc = s.pc ∧
    Frame [] [] [s.sp - 1, s.sp - 2] s t ∧ KeepsEngine s t ∧ Costs 16 s t

/-- R225, R108, R40: `POP qq`: the low byte from SP, the high byte from SP + 1; F is written directly under
`F_LOW_MODE`, so for AF every flag takes its bit of the popped low byte. -/
def Obligations.PopLoadsPairFromStackTop : Prop :=
  ∀ (s : State), s.BusReady →
    (∀ q : PairQQ, q ≠ .af → Runs [byte (0b11000001 + 16 * qqCode q)] (Instr.popQQ q) s fun t =>
      t.getQQ q = wordOf (s.bus.mem.read (s.sp + 1)) (s.bus.mem.read s.sp) ∧ t.sp = s.sp + 2 ∧ t.pc = s.pc ∧
      Frame (match q with | .bc => [.b, .c] | .de => [.d, .e] | .hl => [.h, .l] | .af => [.a]) [] [] s t ∧
      KeepsEngine s t ∧ Costs 12 s t) ∧
    Runs [0xF1] .pop_AF s (fun t =>
      t.get8 .a = s.bus.mem.read (s.sp + 1) ∧
      (s.cfg.fLowMode = .asWritten → t.get8 .f = s.bus.mem.read s.sp) ∧
      (s.cfg.fLowMode = .zero → t.get8 .f = s.bus.mem.read s.sp &&& 0xF0#8) ∧
      t.flag .z = (s.bus.mem.read s.sp).getLsbD 7 ∧ t.flag .n = (s.bus.mem.read s.sp).getLsbD 6 ∧
      t.flag .h = (s.bus.mem.read s.sp).getLsbD 5 ∧ t.flag .c = (s.bus.mem.read s.sp).getLsbD 4 ∧
      t.sp = s.sp + 2 ∧ t.pc = s.pc ∧ (∀ r, r ≠ .a → r ≠ .f → t.get8 r = s.get8 r) ∧
      (∀ a, t.bus.mem.read a = s.bus.mem.read a) ∧ t.bus.gaps = s.bus.gaps ∧ KeepsEngine s t ∧ Costs 12 s t)

/-- The source's "Stack round-trip" (R108, R224, R225): PUSH qq then POP qq restores the pair and SP; for AF under
`AS_WRITTEN`. -/
def Obligations.PushThenPopRestoresPair : Prop :=
  ∀ (s : State) (q : PairQQ), s.BusReady → (q = .af → s.cfg.fLowMode = .asWritten) →
    Completes (Instr.pushQQ q) s fun t => Completes (Instr.popQQ q) t fun u =>
      u.getQQ q = s.getQQ q ∧ u.sp = s.sp ∧ u.regs = s.regs

/-! ### 8-bit arithmetic and logic -/

/-- R251-R256: ADD and ADC on a register, `(HL)` and an immediate, in one pass over the three inputs. -/
def Obligations.AddWithAndWithoutCarry : Prop :=
  ∀ (s : State) (form : AluForm), (form = .atHL → s.BusReady) →
    Runs (aluBytes .add form) (form.instr .add) s (fun t =>
      (t.get8 .a).toNat = ((s.get8 .a).toNat + (form.source s).toNat) % 256 ∧
      SumFlags t (s.get8 .a).toNat (form.source s).toNat 0 ∧ DataOnly [.a] [.z, .n, .h, .c] [] form.cost s t) ∧
    Runs (aluBytes .adc form) (form.instr .adc) s (fun t =>
      (t.get8 .a).toNat = ((s.get8 .a).toNat + (form.source s).toNat + (s.flag .c).toNat) % 256 ∧
      SumFlags t (s.get8 .a).toNat (form.source s).toNat (s.flag .c).toNat ∧
      DataOnly [.a] [.z, .n, .h, .c] [] form.cost s t)

/-- R257-R262, R272-R274: SUB, SBC and CP; CP leaves A. -/
def Obligations.SubtractBorrowAndCompare : Prop :=
  ∀ (s : State) (form : AluForm), (form = .atHL → s.BusReady) →
    Runs (aluBytes .sub form) (form.instr .sub) s (fun t =>
      (t.get8 .a).toNat = ((s.get8 .a).toNat + 256 - (form.source s).toNat) % 256 ∧
      DiffFlags t (s.get8 .a).toNat (form.source s).toNat 0 ∧ DataOnly [.a] [.z, .n, .h, .c] [] form.cost s t) ∧
    Runs (aluBytes .sbc form) (form.instr .sbc) s (fun t =>
      (t.get8 .a).toNat = ((s.get8 .a).toNat + 512 - (form.source s).toNat - (s.flag .c).toNat) % 256 ∧
      DiffFlags t (s.get8 .a).toNat (form.source s).toNat (s.flag .c).toNat ∧
      DataOnly [.a] [.z, .n, .h, .c] [] form.cost s t) ∧
    Runs (aluBytes .cp form) (form.instr .cp) s (fun t =>
      DiffFlags t (s.get8 .a).toNat (form.source s).toNat 0 ∧ DataOnly [] [.z, .n, .h, .c] [] form.cost s t)

/-- R263-R271: AND, XOR and OR, bit by bit; N and C are cleared, H is set by AND alone. -/
def Obligations.BitwiseLogicOnAccumulator : Prop :=
  ∀ (s : State) (form : AluForm), (form = .atHL → s.BusReady) →
    Runs (aluBytes .and form) (form.instr .and) s (fun t =>
      (∀ k < 8, (t.get8 .a).getLsbD k = ((s.get8 .a).getLsbD k && (form.source s).getLsbD k)) ∧
      (t.flag .z = true ↔ t.get8 .a = 0x00#8) ∧ t.flag .n = false ∧ t.flag .h = true ∧ t.flag .c = false ∧
      DataOnly [.a] [.z, .n, .h, .c] [] form.cost s t) ∧
    Runs (aluBytes .xor form) (form.instr .xor) s (fun t =>
      (∀ k < 8, (t.get8 .a).getLsbD k = ((s.get8 .a).getLsbD k != (form.source s).getLsbD k)) ∧
      (t.flag .z = true ↔ t.get8 .a = 0x00#8) ∧ t.flag .n = false ∧ t.flag .h = false ∧ t.flag .c = false ∧
      DataOnly [.a] [.z, .n, .h, .c] [] form.cost s t) ∧
    Runs (aluBytes .or form) (form.instr .or) s (fun t =>
      (∀ k < 8, (t.get8 .a).getLsbD k = ((s.get8 .a).getLsbD k || (form.source s).getLsbD k)) ∧
      (t.flag .z = true ↔ t.get8 .a = 0x00#8) ∧ t.flag .n = false ∧ t.flag .h = false ∧ t.flag .c = false ∧
      DataOnly [.a] [.z, .n, .h, .c] [] form.cost s t)

/-- R275-R278: INC and DEC of a register and of the byte at HL; C is not written. -/
def Obligations.IncrementDecrementByte : Prop :=
  ∀ (s : State),
    (∀ r : OpReg,
      Runs [byte (0b00000100 + 8 * regCode r)] (Instr.incR r) s (fun t =>
        (t.get8 r.reg).toNat = ((s.get8 r.reg).toNat + 1) % 256 ∧
        (t.flag .z = true ↔ (s.get8 r.reg).toNat = 255) ∧ t.flag .n = false ∧
        (t.flag .h = true ↔ (s.get8 r.reg).toNat % 16 = 15) ∧ DataOnly [r.reg] [.z, .n, .h] [] 4 s t) ∧
      Runs [byte (0b00000101 + 8 * regCode r)] (Instr.decR r) s (fun t =>
        (t.get8 r.reg).toNat = ((s.get8 r.reg).toNat + 255) % 256 ∧
        (t.flag .z = true ↔ (s.get8 r.reg).toNat = 1) ∧ t.flag .n = true ∧
        (t.flag .h = true ↔ (s.get8 r.reg).toNat % 16 = 0) ∧ DataOnly [r.reg] [.z, .n, .h] [] 4 s t)) ∧
    (s.BusReady →
      Runs [0x34] .inc_atHL s (fun t =>
        (t.bus.mem.read s.hl).toNat = ((s.bus.mem.read s.hl).toNat + 1) % 256 ∧
        (t.flag .z = true ↔ (s.bus.mem.read s.hl).toNat = 255) ∧ t.flag .n = false ∧
        (t.flag .h = true ↔ (s.bus.mem.read s.hl).toNat % 16 = 15) ∧ DataOnly [] [.z, .n, .h] [s.hl] 12 s t) ∧
      Runs [0x35] .dec_atHL s (fun t =>
        (t.bus.mem.read s.hl).toNat = ((s.bus.mem.read s.hl).toNat + 255) % 256 ∧
        (t.flag .z = true ↔ (s.bus.mem.read s.hl).toNat = 1) ∧ t.flag .n = true ∧
        (t.flag .h = true ↔ (s.bus.mem.read s.hl).toNat % 16 = 0) ∧ DataOnly [] [.z, .n, .h] [s.hl] 12 s t))

/-- R279, R68: DAA after an addition and after a subtraction, for every A and every N, H and C; N is not written. -/
def Obligations.DecimalAdjust : Prop :=
  ∀ (s : State),
    let a := (s.get8 .a).toNat
    Runs [0x27] .daa s fun t =>
      (s.flag .n = false →
        (t.get8 .a).toNat = (a + (if s.flag .c = true ∨ a > 0x99 then 0x60 else 0) +
          (if s.flag .h = true ∨ a % 16 > 9 then 6 else 0)) % 256 ∧
        (t.flag .c = true ↔ s.flag .c = true ∨ a > 0x99)) ∧
      (s.flag .n = true →
        (t.get8 .a).toNat = (a + 512 - (if s.flag .c = true then 0x60 else 0) -
          (if s.flag .h = true then 6 else 0)) % 256 ∧
        t.flag .c = s.flag .c) ∧
      (t.flag .z = true ↔ t.get8 .a = 0x00#8) ∧ t.flag .h = false ∧ DataOnly [.a] [.z, .h, .c] [] 4 s t

/-- R280-R282: CPL, SCF and CCF. -/
def Obligations.ComplementAndCarryFlag : Prop :=
  ∀ (s : State),
    Runs [0x2F] .cpl s (fun t => (t.get8 .a).toNat = 255 - (s.get8 .a).toNat ∧ t.flag .n = true ∧ t.flag .h = true ∧
      DataOnly [.a] [.n, .h] [] 4 s t) ∧
    Runs [0x37] .scf s (fun t => t.flag .n = false ∧ t.flag .h = false ∧ t.flag .c = true ∧
      DataOnly [] [.n, .h, .c] [] 4 s t) ∧
    Runs [0x3F] .ccf s (fun t => t.flag .n = false ∧ t.flag .h = false ∧ t.flag .c = !s.flag .c ∧
      DataOnly [] [.n, .h, .c] [] 4 s t)

/-! ### 16-bit arithmetic -/

/-- R300: `ADD HL,rr`: half-carry out of bit 11, carry out of bit 15, Z not written. -/
def Obligations.AddPairToHL : Prop :=
  ∀ (s : State) (p : PairRR), Runs [byte (0b00001001 + 16 * rrCode p)] (Instr.addHLRR p) s fun t =>
    t.hl.toNat = (s.hl.toNat + (s.getRR p).toNat) % 65536 ∧ t.flag .n = false ∧
    (t.flag .h = true ↔ s.hl.toNat % 4096 + (s.getRR p).toNat % 4096 > 4095) ∧
    (t.flag .c = true ↔ s.hl.toNat + (s.getRR p).toNat > 65535) ∧ DataOnly [.h, .l] [.n, .h, .c] [] 8 s t

/-- R302, R303: `INC rr` and `DEC rr`: modulo 2^16, and no flag. -/
def Obligations.IncrementDecrementPair : Prop :=
  ∀ (s : State) (p : PairRR),
    Runs [byte (0b00000011 + 16 * rrCode p)] (Instr.incRR p) s (fun t =>
      (t.getRR p).toNat = ((s.getRR p).toNat + 1) % 65536 ∧ (p ≠ .sp → t.sp = s.sp) ∧ t.pc = s.pc ∧
      Frame p.regs [] [] s t ∧ KeepsEngine s t ∧ Costs 8 s t) ∧
    Runs [byte (0b00001011 + 16 * rrCode p)] (Instr.decRR p) s (fun t =>
      (t.getRR p).toNat = ((s.getRR p).toNat + 65535) % 65536 ∧ (p ≠ .sp → t.sp = s.sp) ∧ t.pc = s.pc ∧
      Frame p.regs [] [] s t ∧ KeepsEngine s t ∧ Costs 8 s t)

/-! ### Rotates, shifts and bits -/

/-- R320-R323: the accumulator rotates; Z is cleared whatever the result. -/
def Obligations.AccumulatorRotatesClearZero : Prop :=
  ∀ (s : State) (op : RotOp) (i : Instr),
    (op, i) ∈ [(RotOp.rlc, Instr.rlca), (.rrc, .rrca), (.rl, .rla), (.rr, .rra)] →
    Runs [byte (8 * rotCode op + 7)] i s fun t =>
      (t.get8 .a).toNat = (shiftNumber op (s.get8 .a).toNat (s.flag .c).toNat).1 ∧
      ShiftFlags t false (shiftNumber op (s.get8 .a).toNat (s.flag .c).toNat).2 ∧
      DataOnly [.a] [.z, .n, .h, .c] [] 4 s t

/-- R324, R326, R328, R330, R332, R334, R336, R338: the extended rotates and shifts of a register. -/
def Obligations.RotateShiftRegister : Prop :=
  ∀ (s : State) (op : RotOp) (r : OpReg), Runs [0xCB, byte (8 * rotCode op + regCode r)] (Instr.rotR op r) s fun t =>
    (t.get8 r.reg).toNat = (shiftNumber op (s.get8 r.reg).toNat (s.flag .c).toNat).1 ∧
    ShiftFlags t (decide (t.get8 r.reg = 0x00#8)) (shiftNumber op (s.get8 r.reg).toNat (s.flag .c).toNat).2 ∧
    DataOnly [r.reg] [.z, .n, .h, .c] [] 8 s t

/-- R325, R327, R329, R331, R333, R335, R337, R339: the extended rotates and shifts of the byte at HL. -/
def Obligations.RotateShiftMemory : Prop :=
  ∀ (s : State) (op : RotOp), s.BusReady → Runs [0xCB, byte (0b110 + 8 * rotCode op)] (Instr.rotAtHL op) s fun t =>
    (t.bus.mem.read s.hl).toNat = (shiftNumber op (s.bus.mem.read s.hl).toNat (s.flag .c).toNat).1 ∧
    ShiftFlags t (decide (t.bus.mem.read s.hl = 0x00#8))
      (shiftNumber op (s.bus.mem.read s.hl).toNat (s.flag .c).toNat).2 ∧
    DataOnly [] [.z, .n, .h, .c] [s.hl] 16 s t

/-- R360, R361: BIT: Z is the negation of the tested bit, N 0, H 1, and C is never changed. -/
def Obligations.BitTestSetsZeroFromBit : Prop :=
  ∀ (s : State) (b : Fin 8),
    (∀ r : OpReg, Runs [0xCB, byte (0b01000000 + 8 * b + regCode r)] (Instr.bitR b r) s fun t =>
      t.flag .z = !(s.get8 r.reg).getLsbD b ∧ t.flag .n = false ∧ t.flag .h = true ∧
      DataOnly [] [.z, .n, .h] [] 8 s t) ∧
    (s.BusReady → Runs [0xCB, byte (0b01000110 + 8 * b)] (Instr.bitAtHL b) s fun t =>
      t.flag .z = !(s.bus.mem.read s.hl).getLsbD b ∧ t.flag .n = false ∧ t.flag .h = true ∧
      DataOnly [] [.z, .n, .h] [] 12 s t)

/-- R362-R365: RES and SET change bit b alone of a register or of the byte at HL, and no flag. -/
def Obligations.ResetSetBit : Prop :=
  ∀ (s : State) (b : Fin 8),
    (∀ r : OpReg,
      Runs [0xCB, byte (0b10000000 + 8 * b + regCode r)] (Instr.resR b r) s (fun t =>
        (∀ k < 8, (t.get8 r.reg).getLsbD k = if k = b.val then false else (s.get8 r.reg).getLsbD k) ∧
        DataOnly [r.reg] [] [] 8 s t) ∧
      Runs [0xCB, byte (0b11000000 + 8 * b + regCode r)] (Instr.setR b r) s (fun t =>
        (∀ k < 8, (t.get8 r.reg).getLsbD k = if k = b.val then true else (s.get8 r.reg).getLsbD k) ∧
        DataOnly [r.reg] [] [] 8 s t)) ∧
    (s.BusReady →
      Runs [0xCB, byte (0b10000110 + 8 * b)] (Instr.resAtHL b) s (fun t =>
        (∀ k < 8, (t.bus.mem.read s.hl).getLsbD k = if k = b.val then false else (s.bus.mem.read s.hl).getLsbD k) ∧
        DataOnly [] [] [s.hl] 16 s t) ∧
      Runs [0xCB, byte (0b11000110 + 8 * b)] (Instr.setAtHL b) s (fun t =>
        (∀ k < 8, (t.bus.mem.read s.hl).getLsbD k = if k = b.val then true else (s.bus.mem.read s.hl).getLsbD k) ∧
        DataOnly [] [] [s.hl] 16 s t))

/-- R117, R115: a read-modify-write on `(HL)` is not atomic: a write another unit makes between its two accesses is
lost, whatever it wrote. -/
def Obligations.ReadModifyWriteLosesConcurrentWrite : Prop :=
  ∀ (s : State) (v : Byte), s.bus.mem.wf = true → s.bus.gaps = [[], [.write s.hl v]] →
    Completes .inc_atHL s fun t => (t.bus.mem.read s.hl).toNat = ((s.bus.mem.read s.hl).toNat + 1) % 256

/-! ### Control flow -/

/-- R380, R382, R383: JP nn, JP HL and JR e. The offset is added to the next instruction's address, modulo 2^16. -/
def Obligations.UnconditionalJumps : Prop :=
  ∀ (s : State),
    (∀ nn, Runs [0xC3, loByte nn, hiByte nn] (.jp_nn nn) s (JumpsTo nn 16 s)) ∧
    Runs [0xE9] .jp_HL s (JumpsTo (wordOf (s.get8 .h) (s.get8 .l)) 4 s) ∧
    (∀ e, Runs [0x18, e] (.jr_e e) s fun t =>
      (t.pc.toNat : Int) = ((s.pc.toNat : Int) + e.toInt) % 65536 ∧ JumpsTo t.pc 12 s t)

/-- R381, R384, R42: JP cc,nn and JR cc,e, taken exactly when the condition holds, each outcome at its own cost. -/
def Obligations.ConditionalJumps : Prop :=
  ∀ (s : State) (cc : Cond),
    (∀ nn, Runs [byte (0b11000010 + 8 * ccCode cc), loByte nn, hiByte nn] (Instr.jpCC cc nn) s fun t =>
      (holds s cc → JumpsTo nn 16 s t) ∧ (¬ holds s cc → JumpsTo s.pc 12 s t)) ∧
    (∀ e, Runs [byte (0b00100000 + 8 * ccCode cc), e] (Instr.jrCC cc e) s fun t =>
      (holds s cc → (t.pc.toNat : Int) = ((s.pc.toNat : Int) + e.toInt) % 65536 ∧ JumpsTo t.pc 12 s t) ∧
      (¬ holds s cc → JumpsTo s.pc 8 s t))

/-- R385, R386, R390: CALL nn, CALL cc,nn and RST t. A call not taken pushes nothing. -/
def Obligations.CallsPushNextAddress : Prop :=
  ∀ (s : State), s.BusReady →
    (∀ nn, Runs [0xCD, loByte nn, hiByte nn] (.call_nn nn) s (CallsTo nn 24 s)) ∧
    (∀ cc nn, Runs [byte (0b11000100 + 8 * ccCode cc), loByte nn, hiByte nn] (Instr.callCC cc nn) s fun t =>
      (holds s cc → CallsTo nn 24 s t) ∧ (¬ holds s cc → JumpsTo s.pc 12 s t)) ∧
    (∀ k : Fin 8, Runs [byte (0b11000111 + 8 * k)] (Instr.rstT k) s fun t =>
      t.pc.toNat = k.val * 8 ∧ CallsTo t.pc 16 s t)

/-- R387-R389: RET, RET cc and RETI. RETI sets IME at once and cancels a pending EI. -/
def Obligations.ReturnsPopAddress : Prop :=
  ∀ (s : State), s.BusReady →
    Runs [0xC9] .ret s (fun t => ReturnsFrom 16 s t ∧ KeepsEngine s t) ∧
    (∀ cc, Runs [byte (0b11000000 + 8 * ccCode cc)] (Instr.retCC cc) s fun t =>
      (holds s cc → ReturnsFrom 20 s t ∧ KeepsEngine s t) ∧ (¬ holds s cc → JumpsTo s.pc 8 s t)) ∧
    Runs [0xD9] .reti s (fun t =>
      ReturnsFrom 16 s t ∧ t.ime = true ∧ t.eiPending = false ∧
      KeepsEngine { s with ime := true, eiPending := false } t)

/-- The source's control-flow property (R385, R387): CALL nn, then RET, leaves PC at the instruction after the CALL and
SP as it was. -/
def Obligations.CallThenReturnResumes : Prop :=
  ∀ (s : State) (nn : Word), s.BusReady →
    Completes (.call_nn nn) s fun t => t.pc = nn ∧
      Completes .ret t fun u => u.pc = s.pc ∧ u.sp = s.sp ∧ u.regs = s.regs

/-! ### System instructions, the escape and the unpopulated slots -/

/-- R420, R423, R424: NOP, DI (IME and a pending EI cleared at once) and EI (only pending). -/
def Obligations.NopDisableEnableInterrupts : Prop :=
  ∀ (s : State),
    Runs [0x00] .nop s (DataOnly [] [] [] 4 s) ∧
    Runs [0xF3] .di s (fun t => t.ime = false ∧ t.eiPending = false ∧
      DataOnly [] [] [] 4 { s with ime := false, eiPending := false } t) ∧
    Runs [0xFB] .ei s (fun t => t.ime = s.ime ∧ t.eiPending = true ∧ DataOnly [] [] [] 4 { s with eiPending := true } t)

/-- R421: HALT halts if nothing is requested; with IME = 0 and a request it sets the halt bug instead; with IME = 1 and
a request it does neither. -/
def Obligations.HaltForms : Prop :=
  ∀ (s : State), s.BusReady → Runs [0x76] .halt s fun t =>
    (requested s = 0x00#8 → DataOnly [] [] [] 4 { s with mode := .halted } t) ∧
    (requested s ≠ 0x00#8 → s.ime = false → DataOnly [] [] [] 4 { s with haltBug := true } t) ∧
    (requested s ≠ 0x00#8 → s.ime = true → DataOnly [] [] [] 4 s t)

/-- R422, R172: STOP with any second byte enters Stopped, and a Stopped tick changes nothing and reads nothing. -/
def Obligations.StopEntersStoppedForGood : Prop :=
  ∀ (s : State),
    (∀ n, Runs [0x10, n] (.stop n) s (DataOnly [] [] [] 4 { s with mode := .stopped })) ∧
    (s.mode = .stopped → s.cyclesRemaining = 0 → engineTick s = .next s)

/-- R156, R165: "read one more byte and consult the extended table": the escape's own row, run from the byte after it, is
the extended instruction that byte selects, run from the byte after that. -/
def Obligations.EscapeConsultsExtendedTable : Prop :=
  ∀ (s : State), s.BusReady → ∃ i,
    extSlot (s.bus.mem.read s.pc) = some i ∧ i.wellFormed = true ∧
    exec .prefixCB s = exec i { s with pc := s.pc + 1 } ∧ ∃ t, exec .prefixCB s = .next t

/-- R158, R450, R451, R453: each of the eleven unpopulated slots raises InvalidOpcode: the record and the mode are
written and nothing else; no cost is charged. -/
def Obligations.UnpopulatedSlotsRaiseInvalidOpcode : Prop :=
  Instr.unpopulatedSlots.map (fun slot => slot.1.toNat) =
    [0xD3, 0xDB, 0xDD, 0xE3, 0xE4, 0xEB, 0xEC, 0xED, 0xF4, 0xFC, 0xFD] ∧
  ∀ (s : State) (b : Byte) (i : Instr), (b, i) ∈ Instr.unpopulatedSlots →
    baseSlot b = some (.unpopulated i) ∧
    Completes i s fun t =>
      t.fault = some { kind := .invalidOpcode, pc := s.pc, bytes := [b] } ∧ t.mode = .faulted .invalidOpcode ∧
      t = { s with fault := t.fault, mode := t.mode }

/-! ### Whole-machine rules over the instructions -/

/-- R104, R109, R120, R457: no row of the table stops the machine, in any state: no address, alignment or privilege
fault, and no refusal. -/
def Obligations.EveryInstructionCompletes : Prop := ∀ (i : Instr) (s : State), Completes i s fun t => t.cfg = s.cfg

/-- R40: no row but POP AF changes F's bits 3..0. -/
def Obligations.OnlyPopAFChangesLowNibbleOfF : Prop :=
  ∀ (i : Instr) (s t : State), i ≠ .pop_AF → exec i s = .next t →
    t.get8 .f &&& 0x0F#8 = s.get8 .f &&& 0x0F#8

/-- R43-R48: no row but DI, EI, RETI, HALT, STOP and the unpopulated slots changes IME, ei_pending, halt_bug, the mode
or the fault record, and none at all the scheduler. -/
def Obligations.OnlySystemRowsChangeEngineState : Prop :=
  ∀ (i : Instr) (s t : State), exec i s = .next t →
    t.sched = s.sched ∧
    (i ∉ [Instr.di, .ei, .reti, .halt] → (∀ n, i ≠ .stop n) → i.isUnpopulated = false → KeepsEngine s t)

/-- R545: the cost of every base opcode that is an instruction, as the cost map gives it: the first number, or the
second where a condition is not met. -/
def Obligations.BaseOpcodeCosts : Prop :=
  ∀ (s t : State) (b0 b1 b2 : Byte) (i : Instr) (rest : List Byte),
    decode [b0, b1, b2] = .ok (i, rest) → i.wellFormed = true → b0 ≠ 0xCB#8 → exec i s = .next t →
    (∀ c cc, (b0.toNat, c, cc) ∈ notTakenCosts → ¬ holds s cc → Costs c s t) ∧
    ((∀ c cc, (b0.toNat, c, cc) ∈ notTakenCosts → holds s cc) →
      Costs ((baseCosts.getD (b0.toNat / 16) []).getD (b0.toNat % 16) 0) s t)

/-- R545: the cost of every extended opcode, both bytes included: 8, or for `(HL)` 16, or 12 where it only tests. -/
def Obligations.ExtendedOpcodeCosts : Prop :=
  ∀ (s t : State) (b1 : Byte) (i : Instr) (rest : List Byte),
    decode (0xCB#8 :: b1 :: rest) = .ok (i, rest) → exec i s = .next t →
    Costs (if b1.toNat % 8 ≠ 6 then 8 else if b1.toNat / 64 = 1 then 12 else 16) s t

/-! ### Encoding -/

/-- R140, R141, R157, R159: decoding the bytes of an instruction gives it back with every operand, and leaves what
follows them. -/
def Obligations.DecodeOfEncodeIsTheInstruction : Prop :=
  ∀ (i : Instr) (rest : List Byte), i.wellFormed = true → decode (encode i ++ rest) = .ok (i, rest)

/-- R161: "No byte sequence decodes in two ways": what decodes is the encoding of what it decodes to. -/
def Obligations.EncodeOfDecodeIsTheBytes : Prop :=
  ∀ (bytes rest : List Byte) (i : Instr), decode bytes = .ok (i, rest) → encode i ++ rest = bytes

/-- R161, R158, R160, R140: decoding is total on any three bytes: an instruction, or one of the eleven unpopulated
slots; an instruction's length is the declared one. -/
def Obligations.DecodingIsTotal : Prop :=
  ∀ b0 b1 b2 : Byte, ∃ i rest, decode [b0, b1, b2] = .ok (i, rest) ∧
    (i.wellFormed = false ↔ b0.toNat ∈ [0xD3, 0xDB, 0xDD, 0xE3, 0xE4, 0xEB, 0xEC, 0xED, 0xF4, 0xFC, 0xFD]) ∧
    rest.length + declaredLength b0 = 3 ∧ (b0 = 0xCB#8 → extSlot b1 = some i)

/-- R141-R149, R156: words written out bit by bit from the encodings of one instruction of each family. -/
def Obligations.SampleWordsDecode : Prop :=
  ∀ (n lo hi : Byte) (rest : List Byte),
    decode (0b01001000#8 :: rest) = .ok (.ld_C_B, rest) ∧
    decode (0b00101110#8 :: n :: rest) = .ok (.ld_L_n n, rest) ∧
    decode (0b00010001#8 :: lo :: hi :: rest) = .ok (.ld_DE_nn (wordOf hi lo), rest) ∧
    decode (0b11110101#8 :: rest) = .ok (.push_AF, rest) ∧
    decode (0b10011110#8 :: rest) = .ok (.sbc_A_atHL, rest) ∧
    decode (0b11101110#8 :: n :: rest) = .ok (.xor_n n, rest) ∧
    decode (0b00111001#8 :: rest) = .ok (.add_HL_SP, rest) ∧
    decode (0b11001011#8 :: 0b00000111#8 :: rest) = .ok (.rlc_A, rest) ∧
    decode (0b11001011#8 :: 0b01111100#8 :: rest) = .ok (.bit_7_H, rest) ∧
    decode (0b11001011#8 :: 0b11111110#8 :: rest) = .ok (.set_7_atHL, rest) ∧
    decode (0b00110000#8 :: n :: rest) = .ok (.jr_NC_e n, rest) ∧
    decode (0b11001100#8 :: lo :: hi :: rest) = .ok (.call_Z_nn (wordOf hi lo), rest) ∧
    decode (0b11111111#8 :: rest) = .ok (.rst_38h, rest) ∧
    decode (0b01110110#8 :: rest) = .ok (.halt, rest) ∧
    decode (0b11010011#8 :: rest) = .ok (.unpopulated_D3, rest)

/-! ### The Instruction Engine -/

/-- R162-R170: where the engine is due and is to fetch, and the stream at PC decodes to an instruction, a step runs it:
PC advances by its length (one less under the halt bug, which is consumed, R166), its effect is `exec`'s, the delayed
enable follows (R170), and the sub-cycle ends at its barrier (R485). -/
def Obligations.StepRunsTheDecodedInstruction : Prop :=
  ∀ (s : State) (i : Instr) (rest : List Byte),
    s.BusReady → OthersIdle s → Fetching s → s.sched.dispatches .engine = true →
    decode (streamBytes s) = .ok (i, rest) → i.wellFormed = true →
    ∃ t, exec i (s.startSubcycle.advance (3 - rest.length)) = .next t ∧
      step s = .next ((t.lateEnable s.eiPending).barrier [] none) ∧
      (s.startSubcycle.advance (3 - rest.length)).pc =
        s.pc + BitVec.ofNat 16 (3 - rest.length) - (if s.haltBug then 1 else 0) ∧
      (s.startSubcycle.advance (3 - rest.length)).bus = s.bus

/-- R163: a Busy tick takes one from cycles-remaining and has no other effect, in every mode but Faulted; R162: in
Faulted a tick does nothing. -/
def Obligations.BusyTickOnlyDecrements : Prop :=
  ∀ (s : State),
    (s.mode.isFaulted = false → 0 < s.cyclesRemaining →
      engineTick s = .next { s with cyclesRemaining := s.cyclesRemaining - 1 }) ∧
    (s.mode.isFaulted = true → engineTick s = .next s)

/-- R171, R46: a Halted tick wakes the engine exactly when an enabled source is requested, whatever IME is, and does
nothing else. -/
def Obligations.HaltedTickWakesOnRequest : Prop :=
  ∀ (s : State), s.BusReady → s.mode = .halted → s.cyclesRemaining = 0 →
    (requested s = 0x00#8 → engineTick s = .next s) ∧
    (requested s ≠ 0x00#8 → engineTick s = .next { s with mode := .running })

/-- R164, R472-R474: with IME = 1 and a source enabled and requested, the Fetching step dispatches the lowest one and
fetches nothing: IME and a pending EI cleared, its IF bit alone cleared, the return address pushed (the HALT's own
under the halt bug), PC at `0x40 + 8 k`, 20 T-cycles. The IF clause alone asks for a stack clear of IF's address, where
the push, which follows the acknowledgement, overwrites the byte. -/
def Obligations.InterruptDispatchServesLowestSource : Prop :=
  ∀ (s : State) (k : Nat), s.BusReady → s.mode = .running → s.cyclesRemaining = 0 →
    s.cfg.irqDispatch = true → s.ime = true →
    (requested s).getLsbD k = true → (∀ j < k, (requested s).getLsbD j = false) →
    ∃ t, engineTick s = .next t ∧ t.pc.toNat = 0x40 + 8 * k ∧ t.sp = s.sp - 2 ∧
      (s.sp - 1 ≠ 0xFF0F#16 → s.sp - 2 ≠ 0xFF0F#16 → ∀ j < 8, (t.bus.mem.read 0xFF0F#16).getLsbD j =
        if j = k then false else (s.bus.mem.read 0xFF0F#16).getLsbD j) ∧
      wordOf (t.bus.mem.read (s.sp - 1)) (t.bus.mem.read (s.sp - 2)) = s.pc - (if s.haltBug then 1 else 0) ∧
      Frame [] [] [0xFF0F#16, s.sp - 1, s.sp - 2] s t ∧ Costs 20 s t ∧
      KeepsEngine { s with ime := false, eiPending := false, haltBug := false } t

/-- R424, R170, R423: the instruction after an EI completes before IME is set; a DI there cancels the enable. -/
def Obligations.EnableTakesEffectOneInstructionLater : Prop :=
  ∀ (s : State) (i : Instr) (rest : List Byte),
    s.BusReady → Fetching s → s.eiPending = true →
    decode (streamBytes s) = .ok (i, rest) → i.wellFormed = true →
    ∃ t, exec i (s.advance (3 - rest.length)) = .next t ∧
      (t.eiPending = true → engineTick s = .next { t with ime := true, eiPending := false }) ∧
      (t.eiPending = false → engineTick s = .next t) ∧
      (i = .di → ∃ u, engineTick s = .next u ∧ u.ime = false ∧ u.eiPending = false)

/-- R450, R453, R454, R488: a step that fetches an unpopulated slot leaves every register, latch and byte as it was,
with PC at the slot, records the fault, reports it once and excludes the engine. -/
def Obligations.InvalidOpcodeIsPreciseAndReported : Prop :=
  ∀ (s : State) (b : Byte) (i : Instr), s.Inv → OthersIdle s → Fetching s → s.sched.sub = 0 →
    (b, i) ∈ Instr.unpopulatedSlots → s.bus.mem.read s.pc = b →
    ∃ t, step s = .next t ∧
      t.fault = some { kind := .invalidOpcode, pc := s.pc, bytes := [b] } ∧ t.mode = .faulted .invalidOpcode ∧
      EngineFrozen { s with fault := t.fault, mode := t.mode } t ∧ t.bus = s.bus ∧
      t.sched.excluded = [.engine] ∧
      t.sched.reports = [{ source := .engine, record := { kind := .invalidOpcode, pc := s.pc, bytes := [b] } }]

/-- R454, R162: after a fault the engine is quiescent for ever: no step changes anything of it, and nothing more is
reported. -/
def Obligations.FaultedEngineStaysFrozen : Prop :=
  ∀ (s t : State) (n : Nat), s.Inv → s.fault.isSome = true → Host.Core.run Sys2Proof.core n s = .next t →
    EngineFrozen s t ∧ t.sched.excluded = s.sched.excluded ∧ t.sched.reports = s.sched.reports

/-- R452: MalformedOperandFetch never fires with the tables of R157 and R159. -/
def Obligations.MalformedOperandFetchNeverFires : Prop :=
  ∀ (s t : State), step s = .next t → t.mode = .faulted .malformedOperandFetch → s.mode = t.mode

/-! ### The Clock Scheduler, reset and runs -/

/-- R484: a unit of divisor d is dispatched in the sub-cycles that d divides: 4 / d times in the four steps of a
macro-step, the engine once, and twice that in eight; the engine no more once it has faulted (R488). -/
def Obligations.DispatchesPerMacroStep : Prop :=
  ∀ (s : State), s.Inv →
    (s.fault = none → (s.sched.dispatches .engine = true ↔ s.sched.sub.val = 0)) ∧
    (s.sched.sub = 0 → dispatchCount .engine 4 s = if s.fault = none then 1 else 0) ∧
    ∀ (i : Nat) (p : Placeholder), s.sched.placeholders[i]? = some p →
      (s.sched.dispatches (.placeholder i) = true ↔ s.sched.sub.val % p.divisor.toNat = 0) ∧
      (s.sched.sub = 0 → dispatchCount (.placeholder i) 4 s * p.divisor.toNat = 4 ∧
        dispatchCount (.placeholder i) 8 s * p.divisor.toNat = 8)

/-- R483, R485: every step completes exactly one sub-cycle, with no access left outstanding, and changes no switch. -/
def Obligations.EveryStepCompletesOneSubcycle : Prop :=
  ∀ (s : State), ∃ t, step s = .next t ∧ t.completed = s.completed + 1 ∧ t.bus.gaps = [] ∧ t.cfg = s.cfg

/-- R490: a run from the start of a macro-step 0 ends at `MACRO_BOUND`, at the start of a macro-step. -/
def Obligations.RunEndsAtMacroBound : Prop :=
  ∀ (s : State) (bound : Nat), s.sched.macroStep = 0 → s.sched.sub = 0 →
    ∃ t, run bound s = .next t ∧ t.sched.macroStep = bound ∧ t.sched.sub = 0

/-- R52, R53, R113: at launch every register is zero, no debt is owed, the other state is as R53 lists it, and the bus
holds the boot image over `INIT_MEM`. -/
def Obligations.LaunchStateIsResetState : Prop :=
  ∀ (p : Launch), p.wf = true →
    (∀ r, (State.launch p).get8 r = 0x00#8) ∧ (State.launch p).pc = 0x0000#16 ∧ (State.launch p).sp = 0x0000#16 ∧
    (State.launch p).cyclesRemaining = 0 ∧
    (State.launch p).ime = false ∧ (State.launch p).eiPending = false ∧ (State.launch p).mode = .running ∧
    (State.launch p).haltBug = false ∧ (State.launch p).fault = none ∧ (State.launch p).sched.sub = 0 ∧
    (State.launch p).sched.macroStep = 0 ∧ (State.launch p).sched.excluded = [] ∧
    (∀ (i : Nat) (v : Byte), p.bootBytes[i]? = some v →
      (State.launch p).bus.mem.read (p.bootStart + BitVec.ofNat 16 i) = v) ∧
    (∀ a : Word, (∀ i < p.bootBytes.length, a ≠ p.bootStart + BitVec.ofNat 16 i) →
      (State.launch p).bus.mem.read a = p.initMem.read a)

/-- The invariant holds at reset and at every launch. -/
def Obligations.ResetAndLaunchMeetInvariant : Prop :=
  State.reset.Inv ∧ ∀ p : Launch, p.wf = true → (State.launch p).Inv

/-- The invariant is kept by every step: the memory's canonical form and the barrier (R485), the fault bookkeeping (R49,
R450-R454, R488), the halt bug (R47), the debt (R545), F's low nibble (R40). -/
def Obligations.StepKeepsInvariant : Prop := ∀ (s t : State), s.Inv → step s = .next t → t.Inv
end

