-- ==== Sys2Proof/Laws/Decode.lean ====
section
/-! SUPPORT. The two opcode tables at every byte: they are full, each slot's format agrees with the declared length of
R157, and only the slots of R158 hold no instruction. -/

namespace Sys2Proof

/-- What holds of every byte is what holds of the 256 numerals. -/
theorem forall_byte (P : Byte → Prop) (h : ∀ n < 256, P (BitVec.ofNat 8 n)) (b : Byte) : P b := by
  have := h b.toNat b.isLt
  simpa using this

/-- No base slot is missing (R157): the escape, the unpopulated slots and the rest cover all 256. -/
theorem baseSlot_isSome (b : Byte) : (baseSlot b).isSome = true := by
  revert b
  apply forall_byte
  intro n hn
  interval_cases n <;> rfl

/-- The extended table is full (R159), and each of its rows is an instruction. -/
theorem extSlot_isSome : ∀ b : Byte, (extSlot b).isSome = true ∧ ((extSlot b).getD .nop).wellFormed = true := by
  decide +kernel

/-- The declared length of an opcode is its opcode byte and its operand bytes; with the escape, its two bytes
(R154, R157). -/
theorem declaredLength_eq (b : Byte) :
    declaredLength b =
      match baseSlot b with
      | some .escape => 2
      | some slot => 1 + slot.nops
      | none => 0 := by
  revert b
  apply forall_byte
  intro n hn
  interval_cases n <;> rfl

/-- Every slot but the escape and the unpopulated ones holds instructions, whatever the operand. -/
theorem slot_wellFormed (b : Byte) :
    match baseSlot b with
    | some (.op i) => i.wellFormed = true
    | some (.n8 f) => ∀ v, (f v).wellFormed = true
    | some (.e8 f) => ∀ v, (f v).wellFormed = true
    | some (.n16 f) => ∀ v, (f v).wellFormed = true
    | some .escape => b = 0xCB#8
    | some (.unpopulated i) => i.wellFormed = false ∧ (b, i) ∈ Instr.unpopulatedSlots
    | none => False := by
  revert b
  apply forall_byte
  intro n hn
  interval_cases n
  all_goals first
    | rfl
    | exact fun _ => rfl
    | exact ⟨rfl, by simp [Instr.unpopulatedSlots]⟩

end Sys2Proof
end

