-- ==== Sys2Proof/Laws/Flags.lean ====
section
/-! SUPPORT. The laws of the flags byte (R41), of the halves of a 16-bit value (R33, R34), of the exact numbers behind
the ALU's primitives (R55-R62), and of the bit primitives (R67). -/

namespace Sys2Proof

/-! ### The halves of a word -/

theorem toNat_wordOf (hi lo : Byte) : (wordOf hi lo).toNat = hi.toNat * 256 + lo.toNat := by
  unfold wordOf
  rw [BitVec.toNat_append, Nat.shiftLeft_eq, ← Nat.mul_comm (2 ^ 8), ← Nat.two_pow_add_eq_or_of_lt lo.isLt]

theorem toNat_hiByte (v : Word) : (hiByte v).toNat = v.toNat / 256 := by
  have := v.isLt
  unfold hiByte
  rw [BitVec.extractLsb'_toNat, Nat.shiftRight_eq_div_pow]
  omega

theorem toNat_loByte (v : Word) : (loByte v).toNat = v.toNat % 256 := by
  simp [loByte, BitVec.extractLsb'_toNat]

@[simp] theorem wordOf_hiByte_loByte (v : Word) : wordOf (hiByte v) (loByte v) = v := by
  apply BitVec.eq_of_toNat_eq
  rw [toNat_wordOf, toNat_hiByte, toNat_loByte]
  omega

@[simp] theorem hiByte_wordOf (hi lo : Byte) : hiByte (wordOf hi lo) = hi := by
  apply BitVec.eq_of_toNat_eq
  have := lo.isLt
  rw [toNat_hiByte, toNat_wordOf]
  omega

@[simp] theorem loByte_wordOf (hi lo : Byte) : loByte (wordOf hi lo) = lo := by
  apply BitVec.eq_of_toNat_eq
  have := lo.isLt
  rw [toNat_loByte, toNat_wordOf]
  omega

end Sys2Proof

namespace Sys2Proof.Machine

/-! ### One flag of the byte F -/

/-- A flag reads back what was put into it, and putting one flag leaves the other three. -/
theorem flagOf_putFlag (f : Byte) (g g' : Flag) (v : Bool) :
    flagOf (putFlag f g v) g' = if g' = g then v else flagOf f g' := by
  cases g <;> cases g' <;> cases v <;>
    simp [flagOf, putFlag, Flag.pos]

/-- Putting a flag leaves F's bits 3..0 (R40, R41). -/
theorem lowNibble_putFlag (f : Byte) (g : Flag) (v : Bool) : putFlag f g v &&& 0x0F#8 = f &&& 0x0F#8 := by
  revert f
  cases g <;> cases v <;> decide

/-- The value a bulk write names for a flag (R41). -/
def FlagWrite.named (w : FlagWrite) : Flag → Option Bool
  | .z => w.z
  | .n => w.n
  | .h => w.h
  | .c => w.c

theorem flagOf_putFlag? (f : Byte) (g g' : Flag) (v : Option Bool) :
    flagOf (putFlag? f g v) g' = if g' = g then v.getD (flagOf f g') else flagOf f g' := by
  cases v with
  | none => simp [putFlag?]
  | some v => simp [putFlag?, flagOf_putFlag]

/-- A bulk write on the byte F: each flag has the value named for it, or its own where none is named. -/
theorem flagOf_writeFlags (f : Byte) (w : FlagWrite) (g : Flag) :
    flagOf (writeFlags f w) g = (w.named g).getD (flagOf f g) := by
  cases g <;> simp [writeFlags, flagOf_putFlag?, FlagWrite.named]

theorem lowNibble_writeFlags (f : Byte) (w : FlagWrite) : writeFlags f w &&& 0x0F#8 = f &&& 0x0F#8 := by
  obtain ⟨z, n, h, c⟩ := w
  cases z <;> cases n <;> cases h <;> cases c <;> simp [writeFlags, putFlag?, lowNibble_putFlag]

/-- What a flag condition tests (R42). -/
theorem State.cond_eq (s : State) (cc : Cond) :
    s.cond cc = match cc with
      | .nz => !s.flag .z
      | .z => s.flag .z
      | .nc => !s.flag .c
      | .c => s.flag .c := by
  cases cc <;> rfl

/-! ### The ALU over the exact numbers -/

theorem lowNibble_eq (v : Byte) : lowNibble v = v.toNat % 16 := by
  unfold lowNibble
  rw [BitVec.toNat_and]
  exact Nat.and_two_pow_sub_one_eq_mod v.toNat 4

theorem add8_res (a b : Byte) (cin : Bool) : (add8 a b cin).res.toNat = (a.toNat + b.toNat + cin.toNat) % 256 := by
  simp [add8]

theorem sub8_res (a b : Byte) (cin : Bool) :
    (sub8 a b cin).res.toNat = (a.toNat + 512 - b.toNat - cin.toNat) % 256 := by
  have ha := a.isLt
  have hb := b.isLt
  have hc := Bool.toNat_lt cin
  simp only [sub8, BitVec.toNat_ofInt]
  omega

theorem inc8_res (v : Byte) : (inc8 v).res.toNat = (v.toNat + 1) % 256 := by
  simp [inc8]

theorem dec8_res (v : Byte) : (dec8 v).res.toNat = (v.toNat + 255) % 256 := by
  have hv := v.isLt
  simp only [dec8, BitVec.toNat_ofInt]
  omega

theorem add16_res (a b : Word) : (add16 a b).res.toNat = (a.toNat + b.toNat) % 65536 := by
  simp [add16]

theorem toNat_and_fff (a : Word) : (a &&& 0x0FFF#16).toNat = a.toNat % 4096 := by
  rw [BitVec.toNat_and]
  exact Nat.and_two_pow_sub_one_eq_mod a.toNat 12

theorem toNat_and_ff (a : Word) : (a &&& 0x00FF#16).toNat = a.toNat % 256 := by
  rw [BitVec.toNat_and]
  exact Nat.and_two_pow_sub_one_eq_mod a.toNat 8

theorem toNat_and_f (a : Word) : (a &&& 0x000F#16).toNat = a.toNat % 16 := by
  rw [BitVec.toNat_and]
  exact Nat.and_two_pow_sub_one_eq_mod a.toNat 4

theorem isZero_iff (v : Byte) : isZero v = true ↔ v.toNat = 0 := by
  unfold isZero
  rw [decide_eq_true_eq, ← BitVec.toNat_inj]
  rfl

/-! ### One bit of a byte -/

theorem getLsbD_setBit (v : Byte) (b : Fin 8) (k : Nat) (h : k < 8) :
    (setBit v b).getLsbD k = if k = b.val then true else v.getLsbD k := by
  revert b
  interval_cases k <;> intro b <;> fin_cases b <;> simp [setBit]

theorem getLsbD_resBit (v : Byte) (b : Fin 8) (k : Nat) (h : k < 8) :
    (resBit v b).getLsbD k = if k = b.val then false else v.getLsbD k := by
  revert b
  interval_cases k <;> intro b <;> fin_cases b <;> simp [resBit]

end Sys2Proof.Machine
end

