-- ==== Sys2Proof/Laws/Memory.lean ====
section
/-! SUPPORT. The laws of the bus's bytes: a read returns the byte last written (R102), a write changes only the
addressed byte (R103), every memory operation keeps the canonical form, and equal reads are equal lists; and what the
engine's bus accesses do when no other unit's access is outstanding (R114). -/

namespace Sys2Proof.Machine

/-! ### Lists of cells -/

theorem Memory.lookup_insert (cells : List Host.Cell) (low a b : Nat) (v : Byte)
    (hc : Memory.canonical low cells = true) :
    Memory.lookup (Memory.insert cells a v) b = if b = a then v else Memory.lookup cells b := by
  induction cells generalizing low with
  | nil =>
    by_cases hv : v = Memory.unlisted
    · subst hv; simp [Memory.insert, Memory.lookup]
    · simp [Memory.insert, Memory.lookup, hv]
  | cons cell rest ih =>
    obtain ⟨k, w⟩ := cell
    simp only [Memory.canonical, Bool.and_eq_true, decide_eq_true_eq] at hc
    obtain ⟨⟨⟨hlow, hk⟩, hw⟩, hrest⟩ := hc
    have below : ∀ (cs : List Host.Cell) (l x : Nat), Memory.canonical l cs = true → x < l →
        Memory.lookup cs x = Memory.unlisted := by
      intro cs
      induction cs with
      | nil => intros; rfl
      | cons c cs ihc =>
        obtain ⟨j, u⟩ := c
        intro l x hcan hx
        simp only [Memory.canonical, Bool.and_eq_true, decide_eq_true_eq] at hcan
        have hne : x ≠ j := by omega
        simp only [Memory.lookup, if_neg hne]
        exact ihc (j + 1) x hcan.2 (by omega)
    unfold Memory.insert
    split
    · rename_i hak
      split
      · rename_i hv
        by_cases hb : b = a
        · subst hb
          have hne : b ≠ k := by omega
          simp only [Memory.lookup, if_neg hne, if_true]
          rw [hv]
          exact below rest (k + 1) b hrest (by omega)
        · rw [if_neg hb]
      · simp only [Memory.lookup]
    · split
      · rename_i hak
        subst hak
        split
        · rename_i hv
          by_cases hb : b = a
          · subst hb
            rw [if_pos rfl, hv]
            exact below rest (b + 1) b hrest (by omega)
          · simp only [Memory.lookup, if_neg hb]
        · by_cases hb : b = a
          · simp only [Memory.lookup, if_pos hb]
          · simp only [Memory.lookup, if_neg hb]
      · rename_i hlt hne
        simp only [Memory.lookup]
        by_cases hb : b = k
        · have hba : b ≠ a := by omega
          rw [if_pos hb, if_neg hba, if_pos hb]
        · rw [if_neg hb, if_neg hb]
          exact ih (k + 1) hrest

theorem Memory.canonical_mono (cells : List Host.Cell) (low low' : Nat) (h : low' ≤ low)
    (hc : Memory.canonical low cells = true) : Memory.canonical low' cells = true := by
  cases cells with
  | nil => rfl
  | cons cell rest =>
    simp only [Memory.canonical, Bool.and_eq_true, decide_eq_true_eq] at hc ⊢
    exact ⟨⟨⟨by omega, hc.1.1.2⟩, hc.1.2⟩, hc.2⟩

theorem Memory.canonical_insert (cells : List Host.Cell) (low a : Nat) (v : Byte)
    (hc : Memory.canonical low cells = true) (hla : low ≤ a) (ha : a < Config.busSize) :
    Memory.canonical low (Memory.insert cells a v) = true := by
  induction cells generalizing low with
  | nil =>
    by_cases hv : v = Memory.unlisted
    · simp [Memory.insert, hv, Memory.canonical]
    · simp [Memory.insert, hv, Memory.canonical, hla, ha]
  | cons cell rest ih =>
    obtain ⟨k, w⟩ := cell
    have hc' := hc
    simp only [Memory.canonical, Bool.and_eq_true, decide_eq_true_eq] at hc
    obtain ⟨⟨⟨hlow, hk⟩, hw⟩, hrest⟩ := hc
    unfold Memory.insert
    split
    · rename_i hak
      split
      · exact hc'
      · rename_i hv
        have hk1 : a + 1 ≤ k := hak
        simp [Memory.canonical, hla, ha, hv, hk1, hk, hw, hrest]
    · split
      · rename_i hak
        subst hak
        split
        · exact Memory.canonical_mono rest (a + 1) low (by omega) hrest
        · rename_i hv
          simp [Memory.canonical, hla, ha, hv, hrest]
      · rename_i hlt hne
        simp only [Memory.canonical, Bool.and_eq_true, decide_eq_true_eq]
        exact ⟨⟨⟨hlow, hk⟩, hw⟩, ih (k + 1) hrest (by omega)⟩

/-! ### Reading and writing -/

theorem Memory.toNat_lt_busSize (a : Word) : a.toNat < Config.busSize := a.isLt

/-- A read after a write: the byte written at its address, the old byte elsewhere (R102). -/
theorem Memory.read_write (m : Memory) (a b : Word) (v : Byte) (h : m.wf = true) :
    (m.write a v).read b = if b = a then v else m.read b := by
  unfold Memory.read Memory.write
  rw [Memory.lookup_insert m.cells 0 a.toNat b.toNat v h]
  simp only [BitVec.toNat_inj]

theorem Memory.read_write_same (m : Memory) (a : Word) (v : Byte) (h : m.wf = true) : (m.write a v).read a = v := by
  rw [Memory.read_write m a a v h, if_pos rfl]

theorem Memory.read_write_other (m : Memory) (a b : Word) (v : Byte) (h : m.wf = true) (hb : b ≠ a) :
    (m.write a v).read b = m.read b := by
  rw [Memory.read_write m a b v h, if_neg hb]

/-- A write keeps the canonical form. -/
theorem Memory.write_wf (m : Memory) (a : Word) (v : Byte) (h : m.wf = true) : (m.write a v).wf = true :=
  Memory.canonical_insert m.cells 0 a.toNat v h (Nat.zero_le _) (Memory.toNat_lt_busSize a)

theorem Memory.writeRange_wf (m : Memory) (a : Word) (bytes : List Byte) (h : m.wf = true) :
    (m.writeRange a bytes).wf = true := by
  induction bytes generalizing m a with
  | nil => exact h
  | cons v rest ih => exact ih _ _ (Memory.write_wf m a v h)

theorem Memory.apply_wf (m : Memory) (x : Access) (h : m.wf = true) : (m.apply x).wf = true := by
  cases x with
  | read a => exact h
  | write a v => exact Memory.write_wf m a v h

theorem Memory.applyAll_wf (m : Memory) (xs : List Access) (h : m.wf = true) : (m.applyAll xs).wf = true := by
  induction xs generalizing m with
  | nil => exact h
  | cons x rest ih => exact ih _ (Memory.apply_wf m x h)

@[simp] theorem Memory.applyAll_nil (m : Memory) : m.applyAll [] = m := rfl

/-! ### The bus -/

theorem Bus.arrive_wf (b : Bus) (h : b.mem.wf = true) : b.arrive.mem.wf = true := by
  unfold Bus.arrive
  split
  · exact h
  · exact Memory.applyAll_wf _ _ h

theorem Bus.write_wf (b : Bus) (a : Word) (v : Byte) (h : b.mem.wf = true) : (b.write a v).mem.wf = true :=
  Memory.write_wf _ _ _ (Bus.arrive_wf b h)

theorem Bus.drain_wf (b : Bus) (h : b.mem.wf = true) : b.drain.mem.wf = true := by
  unfold Bus.drain
  generalize b.gaps = gaps
  generalize hm : b.mem = m
  rw [hm] at h
  clear hm
  induction gaps generalizing m with
  | nil => exact h
  | cons g rest ih => exact ih _ (Memory.applyAll_wf m g h)

/-- With no access of another unit outstanding the bus is as it stands (R114). -/
@[simp] theorem Bus.arrive_quiet (b : Bus) (h : b.gaps = []) : b.arrive = b := by
  unfold Bus.arrive
  rw [h]

@[simp] theorem Bus.write_quiet (b : Bus) (a : Word) (v : Byte) (h : b.gaps = []) :
    b.write a v = { mem := b.mem.write a v, gaps := [] } := by
  simp [Bus.write, h]

@[simp] theorem Bus.drain_quiet (b : Bus) (h : b.gaps = []) : b.drain = b := by
  cases b
  simp_all [Bus.drain]

@[simp] theorem Bus.drain_gaps (b : Bus) : b.drain.gaps = [] := rfl

end Sys2Proof.Machine
end

