-- ==== Sys2Proof/Laws/State.lean ====
section
/-! SUPPORT. What each state update leaves in each field: one lemma per field and update, so that no later proof unfolds
a record update. -/

namespace Sys2Proof.Machine

/-! ### `set8` -/

@[simp] theorem State.set8_pc (s : State) (r : Reg8) (v : Byte) : (s.set8 r v).pc = s.pc := by cases r <;> rfl
@[simp] theorem State.set8_sp (s : State) (r : Reg8) (v : Byte) : (s.set8 r v).sp = s.sp := by cases r <;> rfl
@[simp] theorem State.set8_ime (s : State) (r : Reg8) (v : Byte) : (s.set8 r v).ime = s.ime := by cases r <;> rfl
@[simp] theorem State.set8_eiPending (s : State) (r : Reg8) (v : Byte) : (s.set8 r v).eiPending = s.eiPending := by cases r <;> rfl
@[simp] theorem State.set8_haltBug (s : State) (r : Reg8) (v : Byte) : (s.set8 r v).haltBug = s.haltBug := by cases r <;> rfl
@[simp] theorem State.set8_mode (s : State) (r : Reg8) (v : Byte) : (s.set8 r v).mode = s.mode := by cases r <;> rfl
@[simp] theorem State.set8_cyclesRemaining (s : State) (r : Reg8) (v : Byte) : (s.set8 r v).cyclesRemaining = s.cyclesRemaining := by cases r <;> rfl
@[simp] theorem State.set8_fault (s : State) (r : Reg8) (v : Byte) : (s.set8 r v).fault = s.fault := by cases r <;> rfl
@[simp] theorem State.set8_bus (s : State) (r : Reg8) (v : Byte) : (s.set8 r v).bus = s.bus := by cases r <;> rfl
@[simp] theorem State.set8_sched (s : State) (r : Reg8) (v : Byte) : (s.set8 r v).sched = s.sched := by cases r <;> rfl
@[simp] theorem State.set8_cfg (s : State) (r : Reg8) (v : Byte) : (s.set8 r v).cfg = s.cfg := by cases r <;> rfl

/-! ### `splitInto` -/

@[simp] theorem State.splitInto_pc (s : State) (v : Word) (hi lo : Reg8) : (s.splitInto v hi lo).pc = s.pc := by simp [State.splitInto]
@[simp] theorem State.splitInto_sp (s : State) (v : Word) (hi lo : Reg8) : (s.splitInto v hi lo).sp = s.sp := by simp [State.splitInto]
@[simp] theorem State.splitInto_ime (s : State) (v : Word) (hi lo : Reg8) : (s.splitInto v hi lo).ime = s.ime := by simp [State.splitInto]
@[simp] theorem State.splitInto_eiPending (s : State) (v : Word) (hi lo : Reg8) : (s.splitInto v hi lo).eiPending = s.eiPending := by simp [State.splitInto]
@[simp] theorem State.splitInto_haltBug (s : State) (v : Word) (hi lo : Reg8) : (s.splitInto v hi lo).haltBug = s.haltBug := by simp [State.splitInto]
@[simp] theorem State.splitInto_mode (s : State) (v : Word) (hi lo : Reg8) : (s.splitInto v hi lo).mode = s.mode := by simp [State.splitInto]
@[simp] theorem State.splitInto_cyclesRemaining (s : State) (v : Word) (hi lo : Reg8) : (s.splitInto v hi lo).cyclesRemaining = s.cyclesRemaining := by simp [State.splitInto]
@[simp] theorem State.splitInto_fault (s : State) (v : Word) (hi lo : Reg8) : (s.splitInto v hi lo).fault = s.fault := by simp [State.splitInto]
@[simp] theorem State.splitInto_bus (s : State) (v : Word) (hi lo : Reg8) : (s.splitInto v hi lo).bus = s.bus := by simp [State.splitInto]
@[simp] theorem State.splitInto_sched (s : State) (v : Word) (hi lo : Reg8) : (s.splitInto v hi lo).sched = s.sched := by simp [State.splitInto]
@[simp] theorem State.splitInto_cfg (s : State) (v : Word) (hi lo : Reg8) : (s.splitInto v hi lo).cfg = s.cfg := by simp [State.splitInto]

/-! ### `setHL` -/

@[simp] theorem State.setHL_pc (s : State) (v : Word) : (s.setHL v).pc = s.pc := by simp [State.setHL]
@[simp] theorem State.setHL_sp (s : State) (v : Word) : (s.setHL v).sp = s.sp := by simp [State.setHL]
@[simp] theorem State.setHL_ime (s : State) (v : Word) : (s.setHL v).ime = s.ime := by simp [State.setHL]
@[simp] theorem State.setHL_eiPending (s : State) (v : Word) : (s.setHL v).eiPending = s.eiPending := by simp [State.setHL]
@[simp] theorem State.setHL_haltBug (s : State) (v : Word) : (s.setHL v).haltBug = s.haltBug := by simp [State.setHL]
@[simp] theorem State.setHL_mode (s : State) (v : Word) : (s.setHL v).mode = s.mode := by simp [State.setHL]
@[simp] theorem State.setHL_cyclesRemaining (s : State) (v : Word) : (s.setHL v).cyclesRemaining = s.cyclesRemaining := by simp [State.setHL]
@[simp] theorem State.setHL_fault (s : State) (v : Word) : (s.setHL v).fault = s.fault := by simp [State.setHL]
@[simp] theorem State.setHL_bus (s : State) (v : Word) : (s.setHL v).bus = s.bus := by simp [State.setHL]
@[simp] theorem State.setHL_sched (s : State) (v : Word) : (s.setHL v).sched = s.sched := by simp [State.setHL]
@[simp] theorem State.setHL_cfg (s : State) (v : Word) : (s.setHL v).cfg = s.cfg := by simp [State.setHL]

/-! ### `setRR` -/

@[simp] theorem State.setRR_pc (s : State) (p : PairRR) (v : Word) : (s.setRR p v).pc = s.pc := by cases p <;> simp [State.setRR]
@[simp] theorem State.setRR_sp (s : State) (p : PairRR) (v : Word) : (s.setRR p v).sp = if p = .sp then v else s.sp := by cases p <;> simp [State.setRR]
@[simp] theorem State.setRR_ime (s : State) (p : PairRR) (v : Word) : (s.setRR p v).ime = s.ime := by cases p <;> simp [State.setRR]
@[simp] theorem State.setRR_eiPending (s : State) (p : PairRR) (v : Word) : (s.setRR p v).eiPending = s.eiPending := by cases p <;> simp [State.setRR]
@[simp] theorem State.setRR_haltBug (s : State) (p : PairRR) (v : Word) : (s.setRR p v).haltBug = s.haltBug := by cases p <;> simp [State.setRR]
@[simp] theorem State.setRR_mode (s : State) (p : PairRR) (v : Word) : (s.setRR p v).mode = s.mode := by cases p <;> simp [State.setRR]
@[simp] theorem State.setRR_cyclesRemaining (s : State) (p : PairRR) (v : Word) : (s.setRR p v).cyclesRemaining = s.cyclesRemaining := by cases p <;> simp [State.setRR]
@[simp] theorem State.setRR_fault (s : State) (p : PairRR) (v : Word) : (s.setRR p v).fault = s.fault := by cases p <;> simp [State.setRR]
@[simp] theorem State.setRR_bus (s : State) (p : PairRR) (v : Word) : (s.setRR p v).bus = s.bus := by cases p <;> simp [State.setRR]
@[simp] theorem State.setRR_sched (s : State) (p : PairRR) (v : Word) : (s.setRR p v).sched = s.sched := by cases p <;> simp [State.setRR]
@[simp] theorem State.setRR_cfg (s : State) (p : PairRR) (v : Word) : (s.setRR p v).cfg = s.cfg := by cases p <;> simp [State.setRR]

/-! ### `setQQ` -/

@[simp] theorem State.setQQ_pc (s : State) (p : PairQQ) (v : Word) : (s.setQQ p v).pc = s.pc := by cases p <;> simp [State.setQQ]
@[simp] theorem State.setQQ_sp (s : State) (p : PairQQ) (v : Word) : (s.setQQ p v).sp = s.sp := by cases p <;> simp [State.setQQ]
@[simp] theorem State.setQQ_ime (s : State) (p : PairQQ) (v : Word) : (s.setQQ p v).ime = s.ime := by cases p <;> simp [State.setQQ]
@[simp] theorem State.setQQ_eiPending (s : State) (p : PairQQ) (v : Word) : (s.setQQ p v).eiPending = s.eiPending := by cases p <;> simp [State.setQQ]
@[simp] theorem State.setQQ_haltBug (s : State) (p : PairQQ) (v : Word) : (s.setQQ p v).haltBug = s.haltBug := by cases p <;> simp [State.setQQ]
@[simp] theorem State.setQQ_mode (s : State) (p : PairQQ) (v : Word) : (s.setQQ p v).mode = s.mode := by cases p <;> simp [State.setQQ]
@[simp] theorem State.setQQ_cyclesRemaining (s : State) (p : PairQQ) (v : Word) : (s.setQQ p v).cyclesRemaining = s.cyclesRemaining := by cases p <;> simp [State.setQQ]
@[simp] theorem State.setQQ_fault (s : State) (p : PairQQ) (v : Word) : (s.setQQ p v).fault = s.fault := by cases p <;> simp [State.setQQ]
@[simp] theorem State.setQQ_bus (s : State) (p : PairQQ) (v : Word) : (s.setQQ p v).bus = s.bus := by cases p <;> simp [State.setQQ]
@[simp] theorem State.setQQ_sched (s : State) (p : PairQQ) (v : Word) : (s.setQQ p v).sched = s.sched := by cases p <;> simp [State.setQQ]
@[simp] theorem State.setQQ_cfg (s : State) (p : PairQQ) (v : Word) : (s.setQQ p v).cfg = s.cfg := by cases p <;> simp [State.setQQ]

/-! ### `setFlags` -/

@[simp] theorem State.setFlags_regs (s : State) (u : FlagWrite) : (s.setFlags u).regs = { s.regs with f := writeFlags s.regs.f u } := rfl
@[simp] theorem State.setFlags_pc (s : State) (u : FlagWrite) : (s.setFlags u).pc = s.pc := rfl
@[simp] theorem State.setFlags_sp (s : State) (u : FlagWrite) : (s.setFlags u).sp = s.sp := rfl
@[simp] theorem State.setFlags_ime (s : State) (u : FlagWrite) : (s.setFlags u).ime = s.ime := rfl
@[simp] theorem State.setFlags_eiPending (s : State) (u : FlagWrite) : (s.setFlags u).eiPending = s.eiPending := rfl
@[simp] theorem State.setFlags_haltBug (s : State) (u : FlagWrite) : (s.setFlags u).haltBug = s.haltBug := rfl
@[simp] theorem State.setFlags_mode (s : State) (u : FlagWrite) : (s.setFlags u).mode = s.mode := rfl
@[simp] theorem State.setFlags_cyclesRemaining (s : State) (u : FlagWrite) : (s.setFlags u).cyclesRemaining = s.cyclesRemaining := rfl
@[simp] theorem State.setFlags_fault (s : State) (u : FlagWrite) : (s.setFlags u).fault = s.fault := rfl
@[simp] theorem State.setFlags_bus (s : State) (u : FlagWrite) : (s.setFlags u).bus = s.bus := rfl
@[simp] theorem State.setFlags_sched (s : State) (u : FlagWrite) : (s.setFlags u).sched = s.sched := rfl
@[simp] theorem State.setFlags_cfg (s : State) (u : FlagWrite) : (s.setFlags u).cfg = s.cfg := rfl

/-! ### `setAFlags` -/

@[simp] theorem State.setAFlags_pc (s : State) (o : AluOut) (n : Bool) : (s.setAFlags o n).pc = s.pc := rfl
@[simp] theorem State.setAFlags_sp (s : State) (o : AluOut) (n : Bool) : (s.setAFlags o n).sp = s.sp := rfl
@[simp] theorem State.setAFlags_ime (s : State) (o : AluOut) (n : Bool) : (s.setAFlags o n).ime = s.ime := rfl
@[simp] theorem State.setAFlags_eiPending (s : State) (o : AluOut) (n : Bool) : (s.setAFlags o n).eiPending = s.eiPending := rfl
@[simp] theorem State.setAFlags_haltBug (s : State) (o : AluOut) (n : Bool) : (s.setAFlags o n).haltBug = s.haltBug := rfl
@[simp] theorem State.setAFlags_mode (s : State) (o : AluOut) (n : Bool) : (s.setAFlags o n).mode = s.mode := rfl
@[simp] theorem State.setAFlags_cyclesRemaining (s : State) (o : AluOut) (n : Bool) : (s.setAFlags o n).cyclesRemaining = s.cyclesRemaining := rfl
@[simp] theorem State.setAFlags_fault (s : State) (o : AluOut) (n : Bool) : (s.setAFlags o n).fault = s.fault := rfl
@[simp] theorem State.setAFlags_bus (s : State) (o : AluOut) (n : Bool) : (s.setAFlags o n).bus = s.bus := rfl
@[simp] theorem State.setAFlags_sched (s : State) (o : AluOut) (n : Bool) : (s.setAFlags o n).sched = s.sched := rfl
@[simp] theorem State.setAFlags_cfg (s : State) (o : AluOut) (n : Bool) : (s.setAFlags o n).cfg = s.cfg := rfl

/-! ### `alu` -/

@[simp] theorem State.alu_pc (s : State) (op : AluOp) (src : Byte) : (s.alu op src).pc = s.pc := by cases op <;> rfl
@[simp] theorem State.alu_sp (s : State) (op : AluOp) (src : Byte) : (s.alu op src).sp = s.sp := by cases op <;> rfl
@[simp] theorem State.alu_ime (s : State) (op : AluOp) (src : Byte) : (s.alu op src).ime = s.ime := by cases op <;> rfl
@[simp] theorem State.alu_eiPending (s : State) (op : AluOp) (src : Byte) : (s.alu op src).eiPending = s.eiPending := by cases op <;> rfl
@[simp] theorem State.alu_haltBug (s : State) (op : AluOp) (src : Byte) : (s.alu op src).haltBug = s.haltBug := by cases op <;> rfl
@[simp] theorem State.alu_mode (s : State) (op : AluOp) (src : Byte) : (s.alu op src).mode = s.mode := by cases op <;> rfl
@[simp] theorem State.alu_cyclesRemaining (s : State) (op : AluOp) (src : Byte) : (s.alu op src).cyclesRemaining = s.cyclesRemaining := by cases op <;> rfl
@[simp] theorem State.alu_fault (s : State) (op : AluOp) (src : Byte) : (s.alu op src).fault = s.fault := by cases op <;> rfl
@[simp] theorem State.alu_bus (s : State) (op : AluOp) (src : Byte) : (s.alu op src).bus = s.bus := by cases op <;> rfl
@[simp] theorem State.alu_sched (s : State) (op : AluOp) (src : Byte) : (s.alu op src).sched = s.sched := by cases op <;> rfl
@[simp] theorem State.alu_cfg (s : State) (op : AluOp) (src : Byte) : (s.alu op src).cfg = s.cfg := by cases op <;> rfl

/-! ### `incDecFlags` -/

@[simp] theorem State.incDecFlags_pc (s : State) (o : AluOut) (n : Bool) : (s.incDecFlags o n).pc = s.pc := rfl
@[simp] theorem State.incDecFlags_sp (s : State) (o : AluOut) (n : Bool) : (s.incDecFlags o n).sp = s.sp := rfl
@[simp] theorem State.incDecFlags_ime (s : State) (o : AluOut) (n : Bool) : (s.incDecFlags o n).ime = s.ime := rfl
@[simp] theorem State.incDecFlags_eiPending (s : State) (o : AluOut) (n : Bool) : (s.incDecFlags o n).eiPending = s.eiPending := rfl
@[simp] theorem State.incDecFlags_haltBug (s : State) (o : AluOut) (n : Bool) : (s.incDecFlags o n).haltBug = s.haltBug := rfl
@[simp] theorem State.incDecFlags_mode (s : State) (o : AluOut) (n : Bool) : (s.incDecFlags o n).mode = s.mode := rfl
@[simp] theorem State.incDecFlags_cyclesRemaining (s : State) (o : AluOut) (n : Bool) : (s.incDecFlags o n).cyclesRemaining = s.cyclesRemaining := rfl
@[simp] theorem State.incDecFlags_fault (s : State) (o : AluOut) (n : Bool) : (s.incDecFlags o n).fault = s.fault := rfl
@[simp] theorem State.incDecFlags_bus (s : State) (o : AluOut) (n : Bool) : (s.incDecFlags o n).bus = s.bus := rfl
@[simp] theorem State.incDecFlags_sched (s : State) (o : AluOut) (n : Bool) : (s.incDecFlags o n).sched = s.sched := rfl
@[simp] theorem State.incDecFlags_cfg (s : State) (o : AluOut) (n : Bool) : (s.incDecFlags o n).cfg = s.cfg := rfl

/-! ### `spFlags` -/

@[simp] theorem State.spFlags_pc (s : State) (o : Alu16Out) : (s.spFlags o).pc = s.pc := rfl
@[simp] theorem State.spFlags_sp (s : State) (o : Alu16Out) : (s.spFlags o).sp = s.sp := rfl
@[simp] theorem State.spFlags_ime (s : State) (o : Alu16Out) : (s.spFlags o).ime = s.ime := rfl
@[simp] theorem State.spFlags_eiPending (s : State) (o : Alu16Out) : (s.spFlags o).eiPending = s.eiPending := rfl
@[simp] theorem State.spFlags_haltBug (s : State) (o : Alu16Out) : (s.spFlags o).haltBug = s.haltBug := rfl
@[simp] theorem State.spFlags_mode (s : State) (o : Alu16Out) : (s.spFlags o).mode = s.mode := rfl
@[simp] theorem State.spFlags_cyclesRemaining (s : State) (o : Alu16Out) : (s.spFlags o).cyclesRemaining = s.cyclesRemaining := rfl
@[simp] theorem State.spFlags_fault (s : State) (o : Alu16Out) : (s.spFlags o).fault = s.fault := rfl
@[simp] theorem State.spFlags_bus (s : State) (o : Alu16Out) : (s.spFlags o).bus = s.bus := rfl
@[simp] theorem State.spFlags_sched (s : State) (o : Alu16Out) : (s.spFlags o).sched = s.sched := rfl
@[simp] theorem State.spFlags_cfg (s : State) (o : Alu16Out) : (s.spFlags o).cfg = s.cfg := rfl

/-! ### `shiftFlags` -/

@[simp] theorem State.shiftFlags_pc (s : State) (z cout : Bool) : (s.shiftFlags z cout).pc = s.pc := rfl
@[simp] theorem State.shiftFlags_sp (s : State) (z cout : Bool) : (s.shiftFlags z cout).sp = s.sp := rfl
@[simp] theorem State.shiftFlags_ime (s : State) (z cout : Bool) : (s.shiftFlags z cout).ime = s.ime := rfl
@[simp] theorem State.shiftFlags_eiPending (s : State) (z cout : Bool) : (s.shiftFlags z cout).eiPending = s.eiPending := rfl
@[simp] theorem State.shiftFlags_haltBug (s : State) (z cout : Bool) : (s.shiftFlags z cout).haltBug = s.haltBug := rfl
@[simp] theorem State.shiftFlags_mode (s : State) (z cout : Bool) : (s.shiftFlags z cout).mode = s.mode := rfl
@[simp] theorem State.shiftFlags_cyclesRemaining (s : State) (z cout : Bool) : (s.shiftFlags z cout).cyclesRemaining = s.cyclesRemaining := rfl
@[simp] theorem State.shiftFlags_fault (s : State) (z cout : Bool) : (s.shiftFlags z cout).fault = s.fault := rfl
@[simp] theorem State.shiftFlags_bus (s : State) (z cout : Bool) : (s.shiftFlags z cout).bus = s.bus := rfl
@[simp] theorem State.shiftFlags_sched (s : State) (z cout : Bool) : (s.shiftFlags z cout).sched = s.sched := rfl
@[simp] theorem State.shiftFlags_cfg (s : State) (z cout : Bool) : (s.shiftFlags z cout).cfg = s.cfg := rfl

/-! ### `bitFlags` -/

@[simp] theorem State.bitFlags_pc (s : State) (bit : Bool) : (s.bitFlags bit).pc = s.pc := rfl
@[simp] theorem State.bitFlags_sp (s : State) (bit : Bool) : (s.bitFlags bit).sp = s.sp := rfl
@[simp] theorem State.bitFlags_ime (s : State) (bit : Bool) : (s.bitFlags bit).ime = s.ime := rfl
@[simp] theorem State.bitFlags_eiPending (s : State) (bit : Bool) : (s.bitFlags bit).eiPending = s.eiPending := rfl
@[simp] theorem State.bitFlags_haltBug (s : State) (bit : Bool) : (s.bitFlags bit).haltBug = s.haltBug := rfl
@[simp] theorem State.bitFlags_mode (s : State) (bit : Bool) : (s.bitFlags bit).mode = s.mode := rfl
@[simp] theorem State.bitFlags_cyclesRemaining (s : State) (bit : Bool) : (s.bitFlags bit).cyclesRemaining = s.cyclesRemaining := rfl
@[simp] theorem State.bitFlags_fault (s : State) (bit : Bool) : (s.bitFlags bit).fault = s.fault := rfl
@[simp] theorem State.bitFlags_bus (s : State) (bit : Bool) : (s.bitFlags bit).bus = s.bus := rfl
@[simp] theorem State.bitFlags_sched (s : State) (bit : Bool) : (s.bitFlags bit).sched = s.sched := rfl
@[simp] theorem State.bitFlags_cfg (s : State) (bit : Bool) : (s.bitFlags bit).cfg = s.cfg := rfl

/-! ### `setPC` -/

@[simp] theorem State.setPC_regs (s : State) (target : Word) : (s.setPC target).regs = s.regs := rfl
@[simp] theorem State.setPC_pc (s : State) (target : Word) : (s.setPC target).pc = target := rfl
@[simp] theorem State.setPC_sp (s : State) (target : Word) : (s.setPC target).sp = s.sp := rfl
@[simp] theorem State.setPC_ime (s : State) (target : Word) : (s.setPC target).ime = s.ime := rfl
@[simp] theorem State.setPC_eiPending (s : State) (target : Word) : (s.setPC target).eiPending = s.eiPending := rfl
@[simp] theorem State.setPC_haltBug (s : State) (target : Word) : (s.setPC target).haltBug = s.haltBug := rfl
@[simp] theorem State.setPC_mode (s : State) (target : Word) : (s.setPC target).mode = s.mode := rfl
@[simp] theorem State.setPC_cyclesRemaining (s : State) (target : Word) : (s.setPC target).cyclesRemaining = s.cyclesRemaining := rfl
@[simp] theorem State.setPC_fault (s : State) (target : Word) : (s.setPC target).fault = s.fault := rfl
@[simp] theorem State.setPC_bus (s : State) (target : Word) : (s.setPC target).bus = s.bus := rfl
@[simp] theorem State.setPC_sched (s : State) (target : Word) : (s.setPC target).sched = s.sched := rfl
@[simp] theorem State.setPC_cfg (s : State) (target : Word) : (s.setPC target).cfg = s.cfg := rfl

/-! ### `charge` -/

@[simp] theorem State.charge_regs (s : State) (cost : Nat) : (s.charge cost).regs = s.regs := rfl
@[simp] theorem State.charge_pc (s : State) (cost : Nat) : (s.charge cost).pc = s.pc := rfl
@[simp] theorem State.charge_sp (s : State) (cost : Nat) : (s.charge cost).sp = s.sp := rfl
@[simp] theorem State.charge_ime (s : State) (cost : Nat) : (s.charge cost).ime = s.ime := rfl
@[simp] theorem State.charge_eiPending (s : State) (cost : Nat) : (s.charge cost).eiPending = s.eiPending := rfl
@[simp] theorem State.charge_haltBug (s : State) (cost : Nat) : (s.charge cost).haltBug = s.haltBug := rfl
@[simp] theorem State.charge_mode (s : State) (cost : Nat) : (s.charge cost).mode = s.mode := rfl
@[simp] theorem State.charge_cyclesRemaining (s : State) (cost : Nat) : (s.charge cost).cyclesRemaining = cyclesAfter s.cfg.busyAfter cost := rfl
@[simp] theorem State.charge_fault (s : State) (cost : Nat) : (s.charge cost).fault = s.fault := rfl
@[simp] theorem State.charge_bus (s : State) (cost : Nat) : (s.charge cost).bus = s.bus := rfl
@[simp] theorem State.charge_sched (s : State) (cost : Nat) : (s.charge cost).sched = s.sched := rfl
@[simp] theorem State.charge_cfg (s : State) (cost : Nat) : (s.charge cost).cfg = s.cfg := rfl

/-! ### `advance` -/

@[simp] theorem State.advance_regs (s : State) (length : Nat) : (s.advance length).regs = s.regs := rfl
@[simp] theorem State.advance_pc (s : State) (length : Nat) : (s.advance length).pc = s.pc + BitVec.ofNat 16 length - bitWord s.haltBug := rfl
@[simp] theorem State.advance_sp (s : State) (length : Nat) : (s.advance length).sp = s.sp := rfl
@[simp] theorem State.advance_ime (s : State) (length : Nat) : (s.advance length).ime = s.ime := rfl
@[simp] theorem State.advance_eiPending (s : State) (length : Nat) : (s.advance length).eiPending = s.eiPending := rfl
@[simp] theorem State.advance_haltBug (s : State) (length : Nat) : (s.advance length).haltBug = false := rfl
@[simp] theorem State.advance_mode (s : State) (length : Nat) : (s.advance length).mode = s.mode := rfl
@[simp] theorem State.advance_cyclesRemaining (s : State) (length : Nat) : (s.advance length).cyclesRemaining = s.cyclesRemaining := rfl
@[simp] theorem State.advance_fault (s : State) (length : Nat) : (s.advance length).fault = s.fault := rfl
@[simp] theorem State.advance_bus (s : State) (length : Nat) : (s.advance length).bus = s.bus := rfl
@[simp] theorem State.advance_sched (s : State) (length : Nat) : (s.advance length).sched = s.sched := rfl
@[simp] theorem State.advance_cfg (s : State) (length : Nat) : (s.advance length).cfg = s.cfg := rfl

/-! ### `raise` -/

@[simp] theorem State.raise_regs (s : State) (kind : Fault) (bytes : List Byte) : (s.raise kind bytes).regs = s.regs := rfl
@[simp] theorem State.raise_pc (s : State) (kind : Fault) (bytes : List Byte) : (s.raise kind bytes).pc = s.pc := rfl
@[simp] theorem State.raise_sp (s : State) (kind : Fault) (bytes : List Byte) : (s.raise kind bytes).sp = s.sp := rfl
@[simp] theorem State.raise_ime (s : State) (kind : Fault) (bytes : List Byte) : (s.raise kind bytes).ime = s.ime := rfl
@[simp] theorem State.raise_eiPending (s : State) (kind : Fault) (bytes : List Byte) : (s.raise kind bytes).eiPending = s.eiPending := rfl
@[simp] theorem State.raise_haltBug (s : State) (kind : Fault) (bytes : List Byte) : (s.raise kind bytes).haltBug = s.haltBug := rfl
@[simp] theorem State.raise_mode (s : State) (kind : Fault) (bytes : List Byte) : (s.raise kind bytes).mode = .faulted kind := rfl
@[simp] theorem State.raise_cyclesRemaining (s : State) (kind : Fault) (bytes : List Byte) : (s.raise kind bytes).cyclesRemaining = s.cyclesRemaining := rfl
@[simp] theorem State.raise_fault (s : State) (kind : Fault) (bytes : List Byte) : (s.raise kind bytes).fault = some { kind := kind, pc := s.pc, bytes := bytes } := rfl
@[simp] theorem State.raise_bus (s : State) (kind : Fault) (bytes : List Byte) : (s.raise kind bytes).bus = s.bus := rfl
@[simp] theorem State.raise_sched (s : State) (kind : Fault) (bytes : List Byte) : (s.raise kind bytes).sched = s.sched := rfl
@[simp] theorem State.raise_cfg (s : State) (kind : Fault) (bytes : List Byte) : (s.raise kind bytes).cfg = s.cfg := rfl

/-! ### `lateEnable` -/

@[simp] theorem State.lateEnable_regs (s : State) (eiBefore : Bool) : (s.lateEnable eiBefore).regs = s.regs := by cases eiBefore <;> cases h : s.eiPending <;> simp [State.lateEnable, h]
@[simp] theorem State.lateEnable_pc (s : State) (eiBefore : Bool) : (s.lateEnable eiBefore).pc = s.pc := by cases eiBefore <;> cases h : s.eiPending <;> simp [State.lateEnable, h]
@[simp] theorem State.lateEnable_sp (s : State) (eiBefore : Bool) : (s.lateEnable eiBefore).sp = s.sp := by cases eiBefore <;> cases h : s.eiPending <;> simp [State.lateEnable, h]
@[simp] theorem State.lateEnable_ime (s : State) (eiBefore : Bool) : (s.lateEnable eiBefore).ime = (s.ime || (eiBefore && s.eiPending)) := by cases eiBefore <;> cases h : s.eiPending <;> simp [State.lateEnable, h]
@[simp] theorem State.lateEnable_eiPending (s : State) (eiBefore : Bool) : (s.lateEnable eiBefore).eiPending = (s.eiPending && !(eiBefore && s.eiPending)) := by cases eiBefore <;> cases h : s.eiPending <;> simp [State.lateEnable, h]
@[simp] theorem State.lateEnable_haltBug (s : State) (eiBefore : Bool) : (s.lateEnable eiBefore).haltBug = s.haltBug := by cases eiBefore <;> cases h : s.eiPending <;> simp [State.lateEnable, h]
@[simp] theorem State.lateEnable_mode (s : State) (eiBefore : Bool) : (s.lateEnable eiBefore).mode = s.mode := by cases eiBefore <;> cases h : s.eiPending <;> simp [State.lateEnable, h]
@[simp] theorem State.lateEnable_cyclesRemaining (s : State) (eiBefore : Bool) : (s.lateEnable eiBefore).cyclesRemaining = s.cyclesRemaining := by cases eiBefore <;> cases h : s.eiPending <;> simp [State.lateEnable, h]
@[simp] theorem State.lateEnable_fault (s : State) (eiBefore : Bool) : (s.lateEnable eiBefore).fault = s.fault := by cases eiBefore <;> cases h : s.eiPending <;> simp [State.lateEnable, h]
@[simp] theorem State.lateEnable_bus (s : State) (eiBefore : Bool) : (s.lateEnable eiBefore).bus = s.bus := by cases eiBefore <;> cases h : s.eiPending <;> simp [State.lateEnable, h]
@[simp] theorem State.lateEnable_sched (s : State) (eiBefore : Bool) : (s.lateEnable eiBefore).sched = s.sched := by cases eiBefore <;> cases h : s.eiPending <;> simp [State.lateEnable, h]
@[simp] theorem State.lateEnable_cfg (s : State) (eiBefore : Bool) : (s.lateEnable eiBefore).cfg = s.cfg := by cases eiBefore <;> cases h : s.eiPending <;> simp [State.lateEnable, h]

/-! ### `busRead` -/

@[simp] theorem State.busRead_regs (s : State) (a : Word) : ((s.busRead a).2).regs = s.regs := rfl
@[simp] theorem State.busRead_pc (s : State) (a : Word) : ((s.busRead a).2).pc = s.pc := rfl
@[simp] theorem State.busRead_sp (s : State) (a : Word) : ((s.busRead a).2).sp = s.sp := rfl
@[simp] theorem State.busRead_ime (s : State) (a : Word) : ((s.busRead a).2).ime = s.ime := rfl
@[simp] theorem State.busRead_eiPending (s : State) (a : Word) : ((s.busRead a).2).eiPending = s.eiPending := rfl
@[simp] theorem State.busRead_haltBug (s : State) (a : Word) : ((s.busRead a).2).haltBug = s.haltBug := rfl
@[simp] theorem State.busRead_mode (s : State) (a : Word) : ((s.busRead a).2).mode = s.mode := rfl
@[simp] theorem State.busRead_cyclesRemaining (s : State) (a : Word) : ((s.busRead a).2).cyclesRemaining = s.cyclesRemaining := rfl
@[simp] theorem State.busRead_fault (s : State) (a : Word) : ((s.busRead a).2).fault = s.fault := rfl
@[simp] theorem State.busRead_bus (s : State) (a : Word) : ((s.busRead a).2).bus = s.bus.arrive := rfl
@[simp] theorem State.busRead_sched (s : State) (a : Word) : ((s.busRead a).2).sched = s.sched := rfl
@[simp] theorem State.busRead_cfg (s : State) (a : Word) : ((s.busRead a).2).cfg = s.cfg := rfl

/-! ### `busWrite` -/

@[simp] theorem State.busWrite_regs (s : State) (a : Word) (v : Byte) : (s.busWrite a v).regs = s.regs := rfl
@[simp] theorem State.busWrite_pc (s : State) (a : Word) (v : Byte) : (s.busWrite a v).pc = s.pc := rfl
@[simp] theorem State.busWrite_sp (s : State) (a : Word) (v : Byte) : (s.busWrite a v).sp = s.sp := rfl
@[simp] theorem State.busWrite_ime (s : State) (a : Word) (v : Byte) : (s.busWrite a v).ime = s.ime := rfl
@[simp] theorem State.busWrite_eiPending (s : State) (a : Word) (v : Byte) : (s.busWrite a v).eiPending = s.eiPending := rfl
@[simp] theorem State.busWrite_haltBug (s : State) (a : Word) (v : Byte) : (s.busWrite a v).haltBug = s.haltBug := rfl
@[simp] theorem State.busWrite_mode (s : State) (a : Word) (v : Byte) : (s.busWrite a v).mode = s.mode := rfl
@[simp] theorem State.busWrite_cyclesRemaining (s : State) (a : Word) (v : Byte) : (s.busWrite a v).cyclesRemaining = s.cyclesRemaining := rfl
@[simp] theorem State.busWrite_fault (s : State) (a : Word) (v : Byte) : (s.busWrite a v).fault = s.fault := rfl
@[simp] theorem State.busWrite_bus (s : State) (a : Word) (v : Byte) : (s.busWrite a v).bus = s.bus.write a v := rfl
@[simp] theorem State.busWrite_sched (s : State) (a : Word) (v : Byte) : (s.busWrite a v).sched = s.sched := rfl
@[simp] theorem State.busWrite_cfg (s : State) (a : Word) (v : Byte) : (s.busWrite a v).cfg = s.cfg := rfl

/-! ### `pushByte` -/

@[simp] theorem State.pushByte_regs (s : State) (v : Byte) : (s.pushByte v).regs = s.regs := rfl
@[simp] theorem State.pushByte_pc (s : State) (v : Byte) : (s.pushByte v).pc = s.pc := rfl
@[simp] theorem State.pushByte_sp (s : State) (v : Byte) : (s.pushByte v).sp = s.sp - 1 := rfl
@[simp] theorem State.pushByte_ime (s : State) (v : Byte) : (s.pushByte v).ime = s.ime := rfl
@[simp] theorem State.pushByte_eiPending (s : State) (v : Byte) : (s.pushByte v).eiPending = s.eiPending := rfl
@[simp] theorem State.pushByte_haltBug (s : State) (v : Byte) : (s.pushByte v).haltBug = s.haltBug := rfl
@[simp] theorem State.pushByte_mode (s : State) (v : Byte) : (s.pushByte v).mode = s.mode := rfl
@[simp] theorem State.pushByte_cyclesRemaining (s : State) (v : Byte) : (s.pushByte v).cyclesRemaining = s.cyclesRemaining := rfl
@[simp] theorem State.pushByte_fault (s : State) (v : Byte) : (s.pushByte v).fault = s.fault := rfl
@[simp] theorem State.pushByte_bus (s : State) (v : Byte) : (s.pushByte v).bus = s.bus.write (s.sp - 1) v := rfl
@[simp] theorem State.pushByte_sched (s : State) (v : Byte) : (s.pushByte v).sched = s.sched := rfl
@[simp] theorem State.pushByte_cfg (s : State) (v : Byte) : (s.pushByte v).cfg = s.cfg := rfl

/-! ### `push16` -/

@[simp] theorem State.push16_regs (s : State) (v : Word) : (s.push16 v).regs = s.regs := rfl
@[simp] theorem State.push16_pc (s : State) (v : Word) : (s.push16 v).pc = s.pc := rfl
@[simp] theorem State.push16_sp (s : State) (v : Word) : (s.push16 v).sp = s.sp - 1 - 1 := rfl
@[simp] theorem State.push16_ime (s : State) (v : Word) : (s.push16 v).ime = s.ime := rfl
@[simp] theorem State.push16_eiPending (s : State) (v : Word) : (s.push16 v).eiPending = s.eiPending := rfl
@[simp] theorem State.push16_haltBug (s : State) (v : Word) : (s.push16 v).haltBug = s.haltBug := rfl
@[simp] theorem State.push16_mode (s : State) (v : Word) : (s.push16 v).mode = s.mode := rfl
@[simp] theorem State.push16_cyclesRemaining (s : State) (v : Word) : (s.push16 v).cyclesRemaining = s.cyclesRemaining := rfl
@[simp] theorem State.push16_fault (s : State) (v : Word) : (s.push16 v).fault = s.fault := rfl
@[simp] theorem State.push16_bus (s : State) (v : Word) : (s.push16 v).bus = (s.bus.write (s.sp - 1) (hiByte v)).write (s.sp - 1 - 1) (loByte v) := rfl
@[simp] theorem State.push16_sched (s : State) (v : Word) : (s.push16 v).sched = s.sched := rfl
@[simp] theorem State.push16_cfg (s : State) (v : Word) : (s.push16 v).cfg = s.cfg := rfl

/-! ### `popByte` -/

@[simp] theorem State.popByte_regs (s : State) : (s.popByte.2).regs = s.regs := rfl
@[simp] theorem State.popByte_pc (s : State) : (s.popByte.2).pc = s.pc := rfl
@[simp] theorem State.popByte_sp (s : State) : (s.popByte.2).sp = s.sp + 1 := rfl
@[simp] theorem State.popByte_ime (s : State) : (s.popByte.2).ime = s.ime := rfl
@[simp] theorem State.popByte_eiPending (s : State) : (s.popByte.2).eiPending = s.eiPending := rfl
@[simp] theorem State.popByte_haltBug (s : State) : (s.popByte.2).haltBug = s.haltBug := rfl
@[simp] theorem State.popByte_mode (s : State) : (s.popByte.2).mode = s.mode := rfl
@[simp] theorem State.popByte_cyclesRemaining (s : State) : (s.popByte.2).cyclesRemaining = s.cyclesRemaining := rfl
@[simp] theorem State.popByte_fault (s : State) : (s.popByte.2).fault = s.fault := rfl
@[simp] theorem State.popByte_bus (s : State) : (s.popByte.2).bus = s.bus.arrive := rfl
@[simp] theorem State.popByte_sched (s : State) : (s.popByte.2).sched = s.sched := rfl
@[simp] theorem State.popByte_cfg (s : State) : (s.popByte.2).cfg = s.cfg := rfl

/-! ### `pop16` -/

@[simp] theorem State.pop16_regs (s : State) : (s.pop16.2).regs = s.regs := rfl
@[simp] theorem State.pop16_pc (s : State) : (s.pop16.2).pc = s.pc := rfl
@[simp] theorem State.pop16_sp (s : State) : (s.pop16.2).sp = s.sp + 1 + 1 := rfl
@[simp] theorem State.pop16_ime (s : State) : (s.pop16.2).ime = s.ime := rfl
@[simp] theorem State.pop16_eiPending (s : State) : (s.pop16.2).eiPending = s.eiPending := rfl
@[simp] theorem State.pop16_haltBug (s : State) : (s.pop16.2).haltBug = s.haltBug := rfl
@[simp] theorem State.pop16_mode (s : State) : (s.pop16.2).mode = s.mode := rfl
@[simp] theorem State.pop16_cyclesRemaining (s : State) : (s.pop16.2).cyclesRemaining = s.cyclesRemaining := rfl
@[simp] theorem State.pop16_fault (s : State) : (s.pop16.2).fault = s.fault := rfl
@[simp] theorem State.pop16_bus (s : State) : (s.pop16.2).bus = s.bus.arrive.arrive := rfl
@[simp] theorem State.pop16_sched (s : State) : (s.pop16.2).sched = s.sched := rfl
@[simp] theorem State.pop16_cfg (s : State) : (s.pop16.2).cfg = s.cfg := rfl

/-! ### `write16` -/

@[simp] theorem State.write16_regs (s : State) (a v : Word) : (s.write16 a v).regs = s.regs := rfl
@[simp] theorem State.write16_pc (s : State) (a v : Word) : (s.write16 a v).pc = s.pc := rfl
@[simp] theorem State.write16_sp (s : State) (a v : Word) : (s.write16 a v).sp = s.sp := rfl
@[simp] theorem State.write16_ime (s : State) (a v : Word) : (s.write16 a v).ime = s.ime := rfl
@[simp] theorem State.write16_eiPending (s : State) (a v : Word) : (s.write16 a v).eiPending = s.eiPending := rfl
@[simp] theorem State.write16_haltBug (s : State) (a v : Word) : (s.write16 a v).haltBug = s.haltBug := rfl
@[simp] theorem State.write16_mode (s : State) (a v : Word) : (s.write16 a v).mode = s.mode := rfl
@[simp] theorem State.write16_cyclesRemaining (s : State) (a v : Word) : (s.write16 a v).cyclesRemaining = s.cyclesRemaining := rfl
@[simp] theorem State.write16_fault (s : State) (a v : Word) : (s.write16 a v).fault = s.fault := rfl
@[simp] theorem State.write16_bus (s : State) (a v : Word) : (s.write16 a v).bus = (s.bus.write a (loByte v)).write (a + 1) (hiByte v) := rfl
@[simp] theorem State.write16_sched (s : State) (a v : Word) : (s.write16 a v).sched = s.sched := rfl
@[simp] theorem State.write16_cfg (s : State) (a v : Word) : (s.write16 a v).cfg = s.cfg := rfl

/-! ### `pending` -/

@[simp] theorem State.pending_regs (s : State) : (s.pending.2).regs = s.regs := rfl
@[simp] theorem State.pending_pc (s : State) : (s.pending.2).pc = s.pc := rfl
@[simp] theorem State.pending_sp (s : State) : (s.pending.2).sp = s.sp := rfl
@[simp] theorem State.pending_ime (s : State) : (s.pending.2).ime = s.ime := rfl
@[simp] theorem State.pending_eiPending (s : State) : (s.pending.2).eiPending = s.eiPending := rfl
@[simp] theorem State.pending_haltBug (s : State) : (s.pending.2).haltBug = s.haltBug := rfl
@[simp] theorem State.pending_mode (s : State) : (s.pending.2).mode = s.mode := rfl
@[simp] theorem State.pending_cyclesRemaining (s : State) : (s.pending.2).cyclesRemaining = s.cyclesRemaining := rfl
@[simp] theorem State.pending_fault (s : State) : (s.pending.2).fault = s.fault := rfl
@[simp] theorem State.pending_bus (s : State) : (s.pending.2).bus = s.bus.arrive.arrive := rfl
@[simp] theorem State.pending_sched (s : State) : (s.pending.2).sched = s.sched := rfl
@[simp] theorem State.pending_cfg (s : State) : (s.pending.2).cfg = s.cfg := rfl

/-! ### `dispatch` -/

@[simp] theorem State.dispatch_regs (s : State) (p : Byte) : (s.dispatch p).regs = s.regs := rfl
@[simp] theorem State.dispatch_pc (s : State) (p : Byte) : (s.dispatch p).pc = vectorOf (lowestSource p) := rfl
@[simp] theorem State.dispatch_sp (s : State) (p : Byte) : (s.dispatch p).sp = s.sp - 1 - 1 := rfl
@[simp] theorem State.dispatch_ime (s : State) (p : Byte) : (s.dispatch p).ime = false := rfl
@[simp] theorem State.dispatch_eiPending (s : State) (p : Byte) : (s.dispatch p).eiPending = false := rfl
@[simp] theorem State.dispatch_haltBug (s : State) (p : Byte) : (s.dispatch p).haltBug = false := rfl
@[simp] theorem State.dispatch_mode (s : State) (p : Byte) : (s.dispatch p).mode = s.mode := rfl
@[simp] theorem State.dispatch_cyclesRemaining (s : State) (p : Byte) : (s.dispatch p).cyclesRemaining = cyclesAfter s.cfg.busyAfter dispatchCost := rfl
@[simp] theorem State.dispatch_fault (s : State) (p : Byte) : (s.dispatch p).fault = s.fault := rfl
@[simp] theorem State.dispatch_sched (s : State) (p : Byte) : (s.dispatch p).sched = s.sched := rfl
@[simp] theorem State.dispatch_cfg (s : State) (p : Byte) : (s.dispatch p).cfg = s.cfg := rfl

/-! ### `returnFromInterrupt` -/

@[simp] theorem State.returnFromInterrupt_regs (s : State) : (s.returnFromInterrupt).regs = s.regs := rfl
@[simp] theorem State.returnFromInterrupt_pc (s : State) : (s.returnFromInterrupt).pc = s.pop16.1 := rfl
@[simp] theorem State.returnFromInterrupt_sp (s : State) : (s.returnFromInterrupt).sp = s.sp + 1 + 1 := rfl
@[simp] theorem State.returnFromInterrupt_ime (s : State) : (s.returnFromInterrupt).ime = true := rfl
@[simp] theorem State.returnFromInterrupt_eiPending (s : State) : (s.returnFromInterrupt).eiPending = false := rfl
@[simp] theorem State.returnFromInterrupt_haltBug (s : State) : (s.returnFromInterrupt).haltBug = s.haltBug := rfl
@[simp] theorem State.returnFromInterrupt_mode (s : State) : (s.returnFromInterrupt).mode = s.mode := rfl
@[simp] theorem State.returnFromInterrupt_cyclesRemaining (s : State) : (s.returnFromInterrupt).cyclesRemaining = s.cyclesRemaining := rfl
@[simp] theorem State.returnFromInterrupt_fault (s : State) : (s.returnFromInterrupt).fault = s.fault := rfl
@[simp] theorem State.returnFromInterrupt_bus (s : State) : (s.returnFromInterrupt).bus = s.bus.arrive.arrive := rfl
@[simp] theorem State.returnFromInterrupt_sched (s : State) : (s.returnFromInterrupt).sched = s.sched := rfl
@[simp] theorem State.returnFromInterrupt_cfg (s : State) : (s.returnFromInterrupt).cfg = s.cfg := rfl

/-! ### The registers after the updates -/

/-- A register reads back what a direct write stored in it (R31); F as its mode says (R40). -/
@[simp] theorem State.get8_set8_same (s : State) (r : Reg8) (v : Byte) :
    (s.set8 r v).get8 r = if r = .f then directF s.cfg.fLowMode v else v := by
  cases r <;> rfl

/-- A write of one register leaves the others (R31). -/
theorem State.get8_set8_other (s : State) (r q : Reg8) (v : Byte) (h : q ≠ r) : (s.set8 r v).get8 q = s.get8 q := by
  cases r <;> cases q <;> first | rfl | exact absurd rfl h

/-- Only the register file is read by `get8`. -/
theorem State.get8_congr (s t : State) (h : t.regs = s.regs) (r : Reg8) : t.get8 r = s.get8 r := by
  cases r <;> simp [State.get8, h]

/-- A flag write changes F alone. -/
@[simp] theorem State.get8_setFlags (s : State) (u : FlagWrite) (r : Reg8) :
    (s.setFlags u).get8 r = if r = .f then writeFlags s.regs.f u else s.get8 r := by
  cases r <;> rfl

@[simp] theorem State.get8_charge (s : State) (cost : Nat) (r : Reg8) : (s.charge cost).get8 r = s.get8 r := rfl

@[simp] theorem State.get8_setPC (s : State) (target : Word) (r : Reg8) : (s.setPC target).get8 r = s.get8 r := rfl

@[simp] theorem State.get8_busRead (s : State) (a : Word) (r : Reg8) : (s.busRead a).2.get8 r = s.get8 r := rfl

@[simp] theorem State.get8_busWrite (s : State) (a : Word) (v : Byte) (r : Reg8) :
    (s.busWrite a v).get8 r = s.get8 r := rfl

@[simp] theorem State.get8_push16 (s : State) (v : Word) (r : Reg8) : (s.push16 v).get8 r = s.get8 r := rfl

@[simp] theorem State.get8_pop16 (s : State) (r : Reg8) : s.pop16.2.get8 r = s.get8 r := rfl

@[simp] theorem State.get8_advance (s : State) (length : Nat) (r : Reg8) : (s.advance length).get8 r = s.get8 r := rfl

@[simp] theorem State.get8_raise (s : State) (kind : Fault) (bytes : List Byte) (r : Reg8) :
    (s.raise kind bytes).get8 r = s.get8 r := rfl

@[simp] theorem State.get8_dispatch (s : State) (p : Byte) (r : Reg8) : (s.dispatch p).get8 r = s.get8 r := rfl

@[simp] theorem State.flag_charge (s : State) (cost : Nat) (g : Flag) : (s.charge cost).flag g = s.flag g := rfl

@[simp] theorem State.flag_busRead (s : State) (a : Word) (g : Flag) : (s.busRead a).2.flag g = s.flag g := rfl

/-- What the engine's read answers: the byte at the address once the accesses before it are made (R115). -/
@[simp] theorem State.busRead_fst (s : State) (a : Word) : (s.busRead a).1 = s.bus.arrive.mem.read a := rfl

end Sys2Proof.Machine
end

