-- ==== Sys2Proof/Laws/Ops.lean ====
section
/-! SUPPORT. What each shared operation does: one lemma per operation over the bus when no other unit's access is
outstanding (`State.BusReady`, R114), which the provers cite instead of unfolding it; and that every bus operation keeps
the memory's canonical form, outstanding accesses or not. -/

namespace Sys2Proof.Machine

/-! ### With no other unit on the bus -/

theorem State.busRead_ready (s : State) (a : Word) (h : s.BusReady) : s.busRead a = (s.bus.mem.read a, s) := by
  simp [State.busRead, Bus.read, h.quiet]

theorem State.busWrite_ready (s : State) (a : Word) (v : Byte) (h : s.BusReady) :
    s.busWrite a v = { s with bus := { mem := s.bus.mem.write a v, gaps := [] } } := by
  simp [State.busWrite, h.quiet]

/-- A write leaves the bus ready for the next access. -/
theorem State.busWrite_stays_ready (s : State) (a : Word) (v : Byte) (h : s.BusReady) : (s.busWrite a v).BusReady := by
  rw [State.busWrite_ready s a v h]
  exact ⟨Memory.write_wf _ _ _ h.memWf, rfl⟩

/-- `Write16` (R106). -/
theorem State.write16_ready (s : State) (a v : Word) (h : s.BusReady) :
    s.write16 a v =
      { s with bus := { mem := (s.bus.mem.write a (loByte v)).write (a + 1) (hiByte v), gaps := [] } } := by
  rw [State.write16, State.busWrite_ready _ _ _ (State.busWrite_stays_ready s a _ h), State.busWrite_ready s a _ h]

/-- `Read16` (R106). -/
theorem State.read16_ready (s : State) (a : Word) (h : s.BusReady) :
    s.read16 a = (wordOf (s.bus.mem.read (a + 1)) (s.bus.mem.read a), s) := by
  simp only [State.read16, State.busRead_ready s _ h]

/-- `Push16` (R107). -/
theorem State.push16_ready (s : State) (v : Word) (h : s.BusReady) :
    s.push16 v =
      { s with
        sp := s.sp - 2
        bus := { mem := (s.bus.mem.write (s.sp - 1) (hiByte v)).write (s.sp - 2) (loByte v), gaps := [] } } := by
  have h2 : s.sp - 1#16 - 1#16 = s.sp - 2#16 := by bv_omega
  simp [State.push16, State.pushByte, State.busWrite, h.quiet, h2]

/-- `Pop16` (R108). -/
theorem State.pop16_ready (s : State) (h : s.BusReady) :
    s.pop16 = (wordOf (s.bus.mem.read (s.sp + 1)) (s.bus.mem.read s.sp), { s with sp := s.sp + 2 }) := by
  have h2 : s.sp + 1#16 + 1#16 = s.sp + 2#16 := by bv_omega
  simp [State.pop16, State.popByte, State.busRead, Bus.read, h.quiet, h2]

/-- `Pending()` (R471). -/
theorem State.pending_ready (s : State) (h : s.BusReady) :
    s.pending = (pendingOf (s.bus.mem.read ieAddr) (s.bus.mem.read ifAddr), s) := by
  simp only [State.pending, State.busRead_ready s _ h]

/-- Interrupt dispatch (R472). -/
theorem State.dispatch_ready (s : State) (p : Byte) (h : s.BusReady) :
    s.dispatch p =
      { s with
        ime := false
        eiPending := false
        haltBug := false
        sp := s.sp - 2
        pc := vectorOf (lowestSource p)
        cyclesRemaining := cyclesAfter s.cfg.busyAfter dispatchCost
        bus :=
          { mem :=
              ((s.bus.mem.write ifAddr (acknowledge (s.bus.mem.read ifAddr) (lowestSource p))).write (s.sp - 1)
                (hiByte (s.pc - bitWord s.haltBug))).write (s.sp - 2) (loByte (s.pc - bitWord s.haltBug))
            gaps := [] } } := by
  have h2 : s.sp - 1#16 - 1#16 = s.sp - 2#16 := by bv_omega
  simp [State.dispatch, State.push16, State.pushByte, State.busWrite, State.busRead, Bus.read, State.setPC,
    State.charge, h.quiet, h2]

/-! ### The canonical form is kept -/

theorem State.busRead_memWf (s : State) (a : Word) (h : s.bus.mem.wf = true) : (s.busRead a).2.bus.mem.wf = true :=
  Bus.arrive_wf _ h

theorem State.busWrite_memWf (s : State) (a : Word) (v : Byte) (h : s.bus.mem.wf = true) :
    (s.busWrite a v).bus.mem.wf = true :=
  Bus.write_wf _ _ _ h

theorem State.push16_memWf (s : State) (v : Word) (h : s.bus.mem.wf = true) : (s.push16 v).bus.mem.wf = true :=
  Bus.write_wf _ _ _ (Bus.write_wf _ _ _ h)

theorem State.pop16_memWf (s : State) (h : s.bus.mem.wf = true) : s.pop16.2.bus.mem.wf = true :=
  Bus.arrive_wf _ (Bus.arrive_wf _ h)

theorem State.write16_memWf (s : State) (a v : Word) (h : s.bus.mem.wf = true) :
    (s.write16 a v).bus.mem.wf = true :=
  Bus.write_wf _ _ _ (Bus.write_wf _ _ _ h)

theorem State.pending_memWf (s : State) (h : s.bus.mem.wf = true) : s.pending.2.bus.mem.wf = true :=
  Bus.arrive_wf _ (Bus.arrive_wf _ h)

theorem State.dispatch_memWf (s : State) (p : Byte) (h : s.bus.mem.wf = true) :
    (s.dispatch p).bus.mem.wf = true :=
  Bus.write_wf _ _ _ (Bus.write_wf _ _ _ (Bus.write_wf _ _ _ (Bus.arrive_wf _ h)))

/-! ### The lowest requested source -/

/-- `lowestSource` names the lowest set bit of a request word (R472, R474). -/
theorem lowestSource_eq (p : Byte) (k : Nat) (hp : p &&& 0x1F#8 = p) (hk : p.getLsbD k = true)
    (hlow : ∀ j < k, p.getLsbD j = false) : (lowestSource p).val = k := by
  have hk5 : k < 5 := by
    rw [← hp, BitVec.getLsbD_and, Bool.and_eq_true] at hk
    by_contra hc
    have h2 := hk.2
    have : (0x1F#8).getLsbD k = false := by
      rcases Nat.lt_or_ge k 8 with h8 | h8
      · interval_cases k <;> first | omega | rfl
      · exact BitVec.getLsbD_of_ge _ _ h8
    rw [this] at h2
    exact Bool.noConfusion h2
  unfold lowestSource
  interval_cases k
  · rw [if_pos hk]; rfl
  · rw [if_neg (by rw [hlow 0 (by omega)]; exact Bool.noConfusion), if_pos hk]; rfl
  · rw [if_neg (by rw [hlow 0 (by omega)]; exact Bool.noConfusion),
      if_neg (by rw [hlow 1 (by omega)]; exact Bool.noConfusion), if_pos hk]; rfl
  · rw [if_neg (by rw [hlow 0 (by omega)]; exact Bool.noConfusion),
      if_neg (by rw [hlow 1 (by omega)]; exact Bool.noConfusion),
      if_neg (by rw [hlow 2 (by omega)]; exact Bool.noConfusion), if_pos hk]; rfl
  · rw [if_neg (by rw [hlow 0 (by omega)]; exact Bool.noConfusion),
      if_neg (by rw [hlow 1 (by omega)]; exact Bool.noConfusion),
      if_neg (by rw [hlow 2 (by omega)]; exact Bool.noConfusion),
      if_neg (by rw [hlow 3 (by omega)]; exact Bool.noConfusion)]; rfl

end Sys2Proof.Machine
end

