-- ==== Sys2Proof/Laws/Engine.lean ====
section
/-! SUPPORT. What the fetch does: it changes the bus alone (R453), and with no other unit on the bus it finds what the
decoder reads from the three bytes of the stream (R165, R166). -/

namespace Sys2Proof.Machine

/-- A stream read changes the bus alone. -/
theorem State.stream_snd (s : State) (i : Nat) : (s.stream i).2 = { s with bus := s.bus.arrive } := rfl

theorem State.stream_ready (s : State) (i : Nat) (h : s.BusReady) : s.stream i = (s.bus.mem.read (s.streamAddr i), s) :=
  State.busRead_ready s _ h

/-- The fetch changes nothing but the bus traffic of other units (R453). -/
theorem fetch_bus_only (s : State) : ∃ b, (fetch s).2 = { s with bus := b } := by
  unfold fetch
  dsimp only
  split
  all_goals first
    | exact ⟨_, rfl⟩
    | (split <;> exact ⟨_, rfl⟩)

/-- The fetch keeps the memory's canonical form. -/
theorem fetch_memWf (s : State) (h : s.bus.mem.wf = true) : (fetch s).2.bus.mem.wf = true := by
  have h1 := Bus.arrive_wf _ h
  have h2 := Bus.arrive_wf _ h1
  have h3 := Bus.arrive_wf _ h2
  unfold fetch
  dsimp only
  split
  all_goals first
    | exact h1
    | exact h2
    | exact h3
    | (split <;> exact h2)

/-- With no other unit on the bus the fetch changes nothing. -/
theorem fetch_ready_state (s : State) (h : s.BusReady) : (fetch s).2 = s := by
  unfold fetch
  simp only [State.stream_ready s _ h]
  split
  all_goals first
    | rfl
    | (simp only [fetch.oneOperand, State.stream_ready s _ h])
    | (split <;> rfl)

/-- The three bytes a fetch may read. -/
def State.streamList (s : State) : List Byte :=
  [s.bus.mem.read (s.streamAddr 0), s.bus.mem.read (s.streamAddr 1), s.bus.mem.read (s.streamAddr 2)]

/-- With no other unit on the bus the fetch finds the instruction the decoder reads from the stream, with its length. -/
theorem fetch_ready_run (s : State) (h : s.BusReady) (i : Instr) (rest : List Byte)
    (hd : decode s.streamList = .ok (i, rest)) (hw : i.wellFormed = true) :
    fetch s = (.run i (3 - rest.length), s) := by
  have hl := declaredLength_eq (s.bus.mem.read (s.streamAddr 0))
  have hs := slot_wellFormed (s.bus.mem.read (s.streamAddr 0))
  unfold State.streamList decode at hd
  unfold fetch
  simp only [State.stream_ready s _ h]
  dsimp only at hd
  cases hb : baseSlot (s.bus.mem.read (s.streamAddr 0)) with
  | none => simp [hb] at hs
  | some slot =>
    rw [hb] at hd hl hs
    cases slot with
    | op j =>
      simp only [Except.ok.injEq, Prod.mk.injEq] at hd
      obtain ⟨rfl, rfl⟩ := hd
      simp [checkLength, hl, Slot.nops]
    | unpopulated j =>
      simp only [Except.ok.injEq, Prod.mk.injEq] at hd
      obtain ⟨rfl, rfl⟩ := hd
      simp [hs.1] at hw
    | n8 f =>
      simp only [decode.oneOperand, Except.ok.injEq, Prod.mk.injEq] at hd
      obtain ⟨rfl, rfl⟩ := hd
      simp [fetch.oneOperand, State.stream_ready s _ h, checkLength, hl, Slot.nops]
    | e8 f =>
      simp only [decode.oneOperand, Except.ok.injEq, Prod.mk.injEq] at hd
      obtain ⟨rfl, rfl⟩ := hd
      simp [fetch.oneOperand, State.stream_ready s _ h, checkLength, hl, Slot.nops]
    | n16 f =>
      simp only [Except.ok.injEq, Prod.mk.injEq] at hd
      obtain ⟨rfl, rfl⟩ := hd
      simp [checkLength, hl, Slot.nops]
    | escape =>
      simp only at hd
      cases hx : extSlot (s.bus.mem.read (s.streamAddr 1)) with
      | none => simp [hx] at hd
      | some j =>
        simp only [hx, Except.ok.injEq, Prod.mk.injEq] at hd
        obtain ⟨rfl, rfl⟩ := hd
        simp [checkLength, hl]

/-- With no other unit on the bus the fetch of an unpopulated slot finds its row. -/
theorem fetch_ready_unpopulated (s : State) (h : s.BusReady) (i : Instr)
    (hb : baseSlot (s.bus.mem.read s.pc) = some (.unpopulated i)) : fetch s = (.unpopulated i, s) := by
  have ha : s.streamAddr 0 = s.pc := by simp [State.streamAddr]
  unfold fetch
  simp only [State.stream_ready s _ h, ha, hb]

/-- In every state the fetch finds an instruction or an unpopulated slot: neither a missing entry nor a malformed
operand fetch (R155, R160). -/
theorem fetch_cases (s : State) :
    (∃ i n s', fetch s = (.run i n, s') ∧ i.wellFormed = true) ∨
    (∃ b i s', fetch s = (.unpopulated i, s') ∧ (b, i) ∈ Instr.unpopulatedSlots) := by
  have hl := declaredLength_eq (s.stream 0).1
  have hs := slot_wellFormed (s.stream 0).1
  unfold fetch
  dsimp only
  cases hb : baseSlot (s.stream 0).1 with
  | none => simp [hb] at hs
  | some slot =>
    rw [hb] at hs hl
    cases slot with
    | op j => exact .inl ⟨j, 1, _, by simp [checkLength, hl, Slot.nops]; rfl, hs⟩
    | unpopulated j => exact .inr ⟨_, j, _, rfl, hs.2⟩
    | n8 f =>
      exact .inl ⟨f ((s.stream 0).2.stream 1).1, 2, _,
        by simp [fetch.oneOperand, checkLength, hl, Slot.nops]; rfl, hs _⟩
    | e8 f =>
      exact .inl ⟨f ((s.stream 0).2.stream 1).1, 2, _,
        by simp [fetch.oneOperand, checkLength, hl, Slot.nops]; rfl, hs _⟩
    | n16 f =>
      exact .inl ⟨f (wordOf (((s.stream 0).2.stream 1).2.stream 2).1 ((s.stream 0).2.stream 1).1), 3, _,
        by simp [checkLength, hl, Slot.nops]; rfl, hs _⟩
    | escape =>
      have he := extSlot_isSome ((s.stream 0).2.stream 1).1
      cases hx : extSlot ((s.stream 0).2.stream 1).1 with
      | none => simp [hx] at he
      | some j =>
        simp only [hx, Option.isSome_some, Option.getD_some, true_and] at he
        exact .inl ⟨j, 2, _, by simp [checkLength, hl]; rfl, he⟩

end Sys2Proof.Machine
end

