-- ==== Sys2Proof/Laws/Scheduler.lean ====
section
/-! SUPPORT. What one sub-cycle adds around the engine's tick: without accesses of placeholders the interleaving is
empty whatever the order, and the barrier leaves the engine's own state. -/

namespace Sys2Proof.Machine

/-- Weaving no access of another unit gives no access, in any order (R115). -/
theorem weave_idle (order : List UnitId) (work : List (List Access)) (h : ∀ w ∈ work, w = []) :
    weave order work [] = { gaps := [], after := [] } := by
  have hflat : work.flatten = [] := List.flatten_eq_nil_iff.mpr h
  induction order with
  | nil => simp [weave, consGap, hflat]
  | cons u rest ih =>
    cases u with
    | engine => simp [weave, ih, consGap]
    | placeholder i =>
      unfold weave
      split
      · rename_i access more hi
        exact absurd (h _ (List.mem_of_getElem? hi)) (by simp)
      · exact ih

/-- Placeholders without an access to make give none, dispatched or not. -/
theorem Sched.workFrom_idle (c : Sched) (start : Nat) (ps : List Placeholder) (h : ∀ p ∈ ps, p.tickWork = []) :
    ∀ w ∈ c.workFrom start ps, w = [] := by
  induction ps generalizing start with
  | nil => simp [Sched.workFrom]
  | cons p rest ih =>
    intro w hw
    simp only [Sched.workFrom, List.mem_cons] at hw
    rcases hw with rfl | hw
    · split
      · exact h p (by simp)
      · rfl
    · exact ih (start + 1) (fun q hq => h q (by simp [hq])) w hw

theorem Sched.woven_idle (c : Sched) (h : ∀ p ∈ c.placeholders, p.tickWork = []) :
    c.woven = { gaps := [], after := [] } :=
  weave_idle _ _ (Sched.workFrom_idle c 0 c.placeholders h)

/-- Ticking placeholders keeps their number. -/
theorem Sched.length_tickedFrom (c : Sched) (start : Nat) (ps : List Placeholder) :
    (c.tickedFrom start ps).length = ps.length := by
  induction ps generalizing start with
  | nil => rfl
  | cons p rest ih => simp [Sched.tickedFrom, ih]

/-- Ticking placeholders keeps each one's place and divisor. -/
theorem Sched.divisor_tickedFrom (c : Sched) (start i : Nat) (ps : List Placeholder) :
    ((c.tickedFrom start ps)[i]?).map (·.divisor) = (ps[i]?).map (·.divisor) := by
  induction ps generalizing start i with
  | nil => rfl
  | cons p rest ih =>
    cases i with
    | zero => simp only [Sched.tickedFrom]; split <;> simp [Placeholder.ticked]
    | succ j => simpa [Sched.tickedFrom] using ih (start + 1) j

/-- The start of a sub-cycle touches the outstanding accesses and the scheduler alone. -/
theorem State.startSubcycle_eq (s : State) :
    s.startSubcycle =
      { s with bus := { s.bus with gaps := s.startSubcycle.bus.gaps }, sched := s.startSubcycle.sched } := rfl

@[simp] theorem State.startSubcycle_mem (s : State) : s.startSubcycle.bus.mem = s.bus.mem := rfl

/-- With no other unit on the bus it touches the scheduler alone. -/
theorem State.startSubcycle_idle (s : State) (h : s.bus.gaps = [])
    (hi : ∀ p ∈ s.sched.placeholders, p.tickWork = []) :
    s.startSubcycle = { s with sched := s.startSubcycle.sched } := by
  have hb : s.startSubcycle.bus = s.bus := by
    cases hs : s.bus
    simp_all [State.startSubcycle, Sched.woven_idle _ hi]
  conv_lhs => rw [State.startSubcycle_eq]
  cases hs : s.bus
  simp_all

/-- The barrier leaves the engine's own state. -/
theorem State.barrier_eq (s : State) (after : List Access) (signal : Option FaultRecord) :
    s.barrier after signal =
      { s with bus := (s.barrier after signal).bus, sched := (s.barrier after signal).sched } := rfl

@[simp] theorem State.barrier_gaps (s : State) (after : List Access) (signal : Option FaultRecord) :
    (s.barrier after signal).bus.gaps = [] := rfl

theorem State.barrier_memWf (s : State) (after : List Access) (signal : Option FaultRecord)
    (h : s.bus.mem.wf = true) : (s.barrier after signal).bus.mem.wf = true :=
  Memory.applyAll_wf _ _ (Bus.drain_wf _ h)

/-- The counters advance by one sub-cycle (R483, R485). -/
theorem Sched.advance_counters (c : Sched) :
    4 * c.advance.macroStep + c.advance.sub.val = 4 * c.macroStep + c.sub.val + 1 := by
  obtain ⟨sub, m, e, r, p, o⟩ := c
  unfold Sched.advance
  fin_cases sub <;> (simp; try omega)

theorem Sched.exclude_counters (c : Sched) (u : UnitId) (signal : Option FaultRecord) :
    (c.exclude u signal).sub = c.sub ∧ (c.exclude u signal).macroStep = c.macroStep := by
  cases signal <;> exact ⟨rfl, rfl⟩

end Sys2Proof.Machine
end

