-- ==== Sys2Proof/Laws/Shapes.lean ====
section
/-! SUPPORT. One specification lemma per shape of instruction of Machine/Ops.lean: the next state it answers and
everything it leaves unchanged. -/

namespace Sys2Proof.Machine

theorem KeepsEngine.refl (s : State) : KeepsEngine s s := ⟨rfl, rfl, rfl, rfl, rfl, rfl, rfl⟩

/-- The charge is the debt of R169 for a cost of at least one clock unit. -/
theorem costs_charge (s u : State) (cost : Nat) (hcost : 4 ≤ cost) (hcfg : u.cfg = s.cfg) :
    Costs cost s (u.charge cost) := by
  constructor <;> (intro h; simp only [State.charge, hcfg, h, cyclesAfter, Config.clockUnit]; try omega)

@[simp] theorem State.flag_setFlags_eq (s : State) (w : FlagWrite) (g : Flag) :
    (s.setFlags w).flag g = (w.named g).getD (s.flag g) :=
  flagOf_writeFlags s.regs.f w g

theorem State.flag_congr (s t : State) (h : t.regs.f = s.regs.f) (g : Flag) : t.flag g = s.flag g := by
  simp only [State.flag, h]

/-- What a direct write of a register other than F leaves. -/
theorem State.set8_frame (s : State) (r : Reg8) (v : Byte) (hr : r ≠ .f) : Frame [r] [] [] s (s.set8 r v) where
  regs q _ hq := State.get8_set8_other s r q v (by simpa using hq)
  flags g _ := State.flag_congr _ _ (State.get8_set8_other s r .f v (Ne.symm hr)) g
  lowF := by rw [State.get8_set8_other s r .f v (Ne.symm hr)]
  mem a _ := by simp
  gaps := by simp

/-- What a bulk flag write leaves. -/
theorem State.setFlags_frame (s : State) (w : FlagWrite) (flags : List Flag)
    (h : ∀ g, g ∉ flags → w.named g = none) : Frame [] flags [] s (s.setFlags w) where
  regs r hr _ := by simp [hr]
  flags g hg := by simp [h g hg]
  lowF := by simp [lowNibble_writeFlags, State.get8]
  mem _ _ := rfl
  gaps := rfl

/-- What a pair's write leaves, for two registers other than F. -/
theorem State.splitInto_frame (s : State) (v : Word) (hi lo : Reg8) (h1 : hi ≠ .f) (h2 : lo ≠ .f) :
    Frame [hi, lo] [] [] s (s.splitInto v hi lo) := by
  have f1 := State.set8_frame s hi (hiByte v) h1
  have f2 := State.set8_frame (s.set8 hi (hiByte v)) lo (loByte v) h2
  refine ⟨fun r hr hm => ?_, fun g hg => ?_, ?_, fun a ha => ?_, ?_⟩
  · rw [State.splitInto, f2.regs r hr (by simp_all), f1.regs r hr (by simp_all)]
  · rw [State.splitInto, f2.flags g hg, f1.flags g hg]
  · rw [State.splitInto, f2.lowF, f1.lowF]
  · rw [State.splitInto, f2.mem a ha, f1.mem a ha]
  · rw [State.splitInto, f2.gaps, f1.gaps]

/-- What a byte store leaves, with no other unit on the bus. -/
theorem State.busWrite_frame (s : State) (a : Word) (v : Byte) (h : s.BusReady) :
    Frame [] [] [a] s (s.busWrite a v) := by
  rw [State.busWrite_ready s a v h]
  exact ⟨fun _ _ _ => rfl, fun _ _ => rfl, rfl,
    fun b hb => Memory.read_write_other _ _ _ _ h.memWf (by simpa using hb), h.quiet.symm⟩

theorem State.push16_frame (s : State) (v : Word) (h : s.BusReady) :
    Frame [] [] [s.sp - 1, s.sp - 2] s (s.push16 v) := by
  rw [State.push16_ready s v h]
  refine ⟨fun _ _ _ => rfl, fun _ _ => rfl, rfl, fun b hb => ?_, h.quiet.symm⟩
  simp only [List.mem_cons, List.not_mem_nil, or_false, not_or] at hb
  exact (Memory.read_write_other _ _ _ _ (Memory.write_wf _ _ _ h.memWf) hb.2).trans
    (Memory.read_write_other _ _ _ _ h.memWf hb.1)

/-- The two bytes of a push, at the addresses below the old stack top (R107). -/
theorem State.push16_bytes (s : State) (v : Word) (h : s.BusReady) :
    (s.push16 v).bus.mem.read (s.sp - 1) = hiByte v ∧ (s.push16 v).bus.mem.read (s.sp - 2) = loByte v := by
  rw [State.push16_ready s v h]
  have hw := Memory.write_wf s.bus.mem (s.sp - 1) (hiByte v) h.memWf
  have hne : s.sp - 1 ≠ s.sp - 2 := by
    intro he
    bv_omega
  exact ⟨(Memory.read_write_other _ _ _ _ hw hne).trans (Memory.read_write_same _ _ _ h.memWf),
    Memory.read_write_same _ _ _ hw⟩

/-- Frames compose: what neither of two updates touches stays. -/
theorem Frame.trans {r1 r2 : List Reg8} {f1 f2 : List Flag} {m1 m2 : List Word} {s t u : State}
    (h1 : Frame r1 f1 m1 s t) (h2 : Frame r2 f2 m2 t u) : Frame (r1 ++ r2) (f1 ++ f2) (m1 ++ m2) s u where
  regs r hr hm := (h2.regs r hr (by simp_all)).trans (h1.regs r hr (by simp_all))
  flags g hg := (h2.flags g (by simp_all)).trans (h1.flags g (by simp_all))
  lowF := h2.lowF.trans h1.lowF
  mem a ha := (h2.mem a (by simp_all)).trans (h1.mem a (by simp_all))
  gaps := h2.gaps.trans h1.gaps

/-- A frame is about the registers, the flags and the bus alone. -/
theorem Frame.charge {r : List Reg8} {f : List Flag} {m : List Word} {s t : State} (h : Frame r f m s t) (cost : Nat) :
    Frame r f m s (t.charge cost) :=
  ⟨h.regs, h.flags, h.lowF, h.mem, h.gaps⟩

/-- A data instruction's effect, charged. -/
theorem DataOnly.of_frame {r : List Reg8} {f : List Flag} {m : List Word} {s t : State} (h : Frame r f m s t)
    (cost : Nat) (hcost : 4 ≤ cost) (hsp : t.sp = s.sp) (hpc : t.pc = s.pc) (hk : KeepsEngine s t) :
    DataOnly r f m cost s (t.charge cost) :=
  ⟨h.charge cost, hsp, hpc, ⟨hk.ime, hk.eiPending, hk.haltBug, hk.mode, hk.fault, hk.sched, hk.cfg⟩,
    costs_charge s t cost hcost hk.cfg⟩

/-! ### The shapes -/

/-- `R[r] <- v`. -/
theorem loadReg_spec (r : Reg8) (v : Byte) (cost : Nat) (s : State) (hr : r ≠ .f) (hcost : 4 ≤ cost) :
    ∃ t, loadReg r v cost s = .next t ∧ t.get8 r = v ∧ DataOnly [r] [] [] cost s t :=
  ⟨_, rfl, by simp [hr], DataOnly.of_frame (State.set8_frame s r v hr) cost hcost (by simp) (by simp)
    ⟨by simp, by simp, by simp, by simp, by simp, by simp, by simp⟩⟩

/-- `R[r] <- MemRead(a, 1)`. -/
theorem loadMem_spec (r : Reg8) (a : Word) (cost : Nat) (s : State) (hr : r ≠ .f) (hcost : 4 ≤ cost)
    (h : s.BusReady) :
    ∃ t, loadMem r a cost s = .next t ∧ t.get8 r = s.bus.mem.read a ∧ DataOnly [r] [] [] cost s t := by
  obtain ⟨t, ht, hv, hd⟩ := loadReg_spec r (s.bus.mem.read a) cost s hr hcost
  exact ⟨t, by rw [← ht]; simp only [loadMem, loadReg, State.busRead_ready s a h], hv, hd⟩

/-- `MemWrite(a, 1, v)`. -/
theorem storeMem_spec (a : Word) (v : Byte) (cost : Nat) (s : State) (hcost : 4 ≤ cost) (h : s.BusReady) :
    ∃ t, storeMem a v cost s = .next t ∧ t.bus.mem.read a = v ∧ DataOnly [] [] [a] cost s t :=
  ⟨_, rfl, by simp [h.quiet, Memory.read_write_same _ _ _ h.memWf],
    DataOnly.of_frame (State.busWrite_frame s a v h) cost hcost rfl rfl ⟨rfl, rfl, rfl, rfl, rfl, rfl, rfl⟩⟩

/-- An ALU operation: the state `State.alu` gives, charged. A is kept by CP alone. -/
theorem aluValue_spec (op : AluOp) (src : Byte) (cost : Nat) (s : State) (hcost : 4 ≤ cost) :
    aluValue op src cost s = .next ((s.alu op src).charge cost) ∧
    DataOnly (if op = .cp then [] else [.a]) [.z, .n, .h, .c] [] cost s ((s.alu op src).charge cost) := by
  refine ⟨rfl, DataOnly.of_frame ?_ cost hcost (by simp) (by simp)
    ⟨by simp, by simp, by simp, by simp, by simp, by simp, by simp⟩⟩
  have all : ∀ (w : FlagWrite) (u : State), Frame [] [.z, .n, .h, .c] [] u (u.setFlags w) := fun w u =>
    State.setFlags_frame u w _ fun g hg => absurd (by cases g <;> simp) hg
  have put : ∀ (o : AluOut) (n : Bool), Frame [.a] [.z, .n, .h, .c] [] s (s.setAFlags o n) := fun o n =>
    (State.set8_frame s .a o.res (by decide)).trans (all _ _)
  cases op
  case cp => exact all _ s
  all_goals exact put _ _

/-- An ALU operation on the byte at HL is that on the byte's value. -/
theorem aluMem_ready (op : AluOp) (s : State) (h : s.BusReady) :
    aluMem op s = aluValue op (s.bus.mem.read s.hl) 8 s := by
  simp only [aluMem, aluValue, State.busRead_ready s _ h]

/-- `jump`: PC and the debt alone. -/
theorem jump_spec (target : Word) (cost : Nat) (s : State) (hcost : 4 ≤ cost) :
    ∃ t, jump target cost s = .next t ∧ t.pc = target ∧ t.sp = s.sp ∧ Frame [] [] [] s t ∧ KeepsEngine s t ∧
      Costs cost s t :=
  ⟨_, rfl, rfl, rfl, ⟨fun _ _ _ => rfl, fun _ _ => rfl, rfl, fun _ _ => rfl, rfl⟩,
    ⟨rfl, rfl, rfl, rfl, rfl, rfl, rfl⟩, costs_charge s (s.setPC target) cost hcost rfl⟩

/-! ### Pairs, HL steps and the stack -/

/-- Nothing but fields outside the register file and the bus is changed. -/
theorem Frame.of_eq (s t : State) (hr : t.regs = s.regs) (hb : t.bus = s.bus) : Frame [] [] [] s t :=
  ⟨fun r _ _ => State.get8_congr _ _ hr r, fun g _ => State.flag_congr _ _ (by rw [hr]) g,
    by rw [State.get8_congr _ _ hr], fun _ _ => by rw [hb], by rw [hb]⟩

/-- HL reads back what was written to it (R33, R34). -/
@[simp] theorem State.setHL_hl (s : State) (v : Word) : (s.setHL v).hl = v := by
  simp [State.hl, State.setHL, State.combine, State.splitInto, State.get8_set8_other]

/-- The pair of a field `rr` reads back what was written to it. -/
@[simp] theorem State.getRR_setRR (s : State) (p : PairRR) (v : Word) : (s.setRR p v).getRR p = v := by
  cases p <;>
    simp [State.setRR, State.getRR, State.bc, State.de, State.hl, State.combine, State.splitInto,
      State.get8_set8_other]

theorem State.setRR_frame (s : State) (p : PairRR) (v : Word) : Frame p.regs [] [] s (s.setRR p v) := by
  cases p
  case sp => exact Frame.of_eq _ _ rfl rfl
  all_goals exact State.splitInto_frame _ _ _ _ (by decide) (by decide)

/-- `rr <- v`. -/
theorem writePair_spec (p : PairRR) (v : Word) (cost : Nat) (s : State) (hcost : 4 ≤ cost) :
    ∃ t, writePair p v cost s = .next t ∧ t.getRR p = v ∧ t.sp = (if p = .sp then v else s.sp) ∧ t.pc = s.pc ∧
      Frame p.regs [] [] s t ∧ KeepsEngine s t ∧ Costs cost s t := by
  refine ⟨_, rfl, ?_, by simp, by simp, (State.setRR_frame s p v).charge cost,
    ⟨by simp, by simp, by simp, by simp, by simp, by simp, by simp⟩, costs_charge _ _ _ hcost (by simp)⟩
  have h := State.getRR_setRR s p v
  cases p <;> exact h

/-- The loads of A that step HL. -/
theorem loadAStep_spec (delta : Word) (s : State) (h : s.BusReady) :
    ∃ t, loadAStep delta s = .next t ∧ t.get8 .a = s.bus.mem.read s.hl ∧ t.hl = s.hl + delta ∧
      DataOnly [.a, .h, .l] [] [] 8 s t := by
  have ha : ∀ v, (s.set8 .a v).hl = s.hl := fun _ => rfl
  refine ⟨_, rfl, ?_, ?_, ?_⟩
  · simp [State.busRead_ready _ _ h, State.setHL, State.splitInto, State.get8_set8_other]
  · change (State.setHL _ _).hl = _
    simp [State.busRead_ready _ _ h, ha]
  · apply DataOnly.of_frame _ 8 (by decide) (by simp) (by simp)
      ⟨by simp, by simp, by simp, by simp, by simp, by simp, by simp⟩
    simp only [State.busRead_ready _ _ h]
    exact (State.set8_frame s .a _ (by decide)).trans (State.splitInto_frame _ _ .h .l (by decide) (by decide))

/-- The stores of A that step HL. -/
theorem storeAStep_spec (delta : Word) (s : State) (h : s.BusReady) :
    ∃ t, storeAStep delta s = .next t ∧ t.bus.mem.read s.hl = s.get8 .a ∧ t.hl = s.hl + delta ∧
      DataOnly [.h, .l] [] [s.hl] 8 s t := by
  refine ⟨_, rfl, ?_, ?_, ?_⟩
  · simp [h.quiet, Memory.read_write_same _ _ _ h.memWf]
  · change (State.setHL _ _).hl = _
    rw [State.setHL_hl]
    rfl
  · apply DataOnly.of_frame _ 8 (by decide) (by simp) (by simp)
      ⟨by simp, by simp, by simp, by simp, by simp, by simp, by simp⟩
    exact (State.busWrite_frame s _ _ h).trans (State.splitInto_frame _ _ .h .l (by decide) (by decide))

/-- The bus is ready for the pop after a push. -/
theorem State.push16_stays_ready (s : State) (v : Word) (h : s.BusReady) : (s.push16 v).BusReady := by
  rw [State.push16_ready _ _ h]
  exact ⟨Memory.write_wf _ _ _ (Memory.write_wf _ _ _ h.memWf), rfl⟩

/-- CALL and RST. -/
theorem call_spec (target : Word) (cost : Nat) (s : State) (h : s.BusReady) (hcost : 4 ≤ cost) :
    ∃ t, call target cost s = .next t ∧ t.pc = target ∧ t.sp = s.sp - 2 ∧
      t.bus.mem.read (s.sp - 1) = hiByte s.pc ∧ t.bus.mem.read (s.sp - 2) = loByte s.pc ∧
      Frame [] [] [s.sp - 1, s.sp - 2] s t ∧ KeepsEngine s t ∧ Costs cost s t :=
  ⟨_, rfl, rfl, by simp [State.push16_ready _ _ h], (State.push16_bytes s s.pc h).1, (State.push16_bytes s s.pc h).2,
    (State.push16_frame s s.pc h).trans (Frame.of_eq (s.push16 s.pc) _ rfl rfl),
    ⟨rfl, rfl, rfl, rfl, rfl, rfl, rfl⟩, costs_charge _ _ _ hcost rfl⟩

/-- RET. -/
theorem ret_spec (cost : Nat) (s : State) (h : s.BusReady) (hcost : 4 ≤ cost) :
    ∃ t, ret cost s = .next t ∧ t.pc = wordOf (s.bus.mem.read (s.sp + 1)) (s.bus.mem.read s.sp) ∧ t.sp = s.sp + 2 ∧
      Frame [] [] [] s t ∧ KeepsEngine s t ∧ Costs cost s t := by
  have hp := State.pop16_ready s h
  refine ⟨_, rfl, by simp [hp], by simp [hp], ?_, ⟨by simp, by simp, by simp, by simp, by simp, by simp, by simp⟩,
    costs_charge _ _ _ hcost (by simp)⟩
  simp only [hp]
  exact Frame.of_eq s _ rfl rfl

/-! ### Operations that write flags -/

/-- INC r and DEC r: C is not written. -/
theorem incDecReg_spec (f : Byte → AluOut) (n : Bool) (r : Reg8) (s : State) (hr : r ≠ .f) :
    ∃ t, incDecReg f n r s = .next t ∧ t.get8 r = (f (s.get8 r)).res ∧ t.flag .z = (f (s.get8 r)).z ∧
      t.flag .n = n ∧ t.flag .h = (f (s.get8 r)).h ∧ DataOnly [r] [.z, .n, .h] [] 4 s t := by
  refine ⟨_, rfl, by simp [State.incDecFlags, hr], by simp [State.incDecFlags, FlagWrite.named],
    by simp [State.incDecFlags, FlagWrite.named], by simp [State.incDecFlags, FlagWrite.named], ?_⟩
  exact DataOnly.of_frame ((State.set8_frame s r _ hr).trans (State.setFlags_frame _ _ [.z, .n, .h]
      fun g hg => by cases g <;> simp_all [FlagWrite.named]))
    4 (by decide) (by simp) (by simp) ⟨by simp, by simp, by simp, by simp, by simp, by simp, by simp⟩

/-- INC (HL) and DEC (HL). -/
theorem incDecMem_spec (f : Byte → AluOut) (n : Bool) (s : State) (h : s.BusReady) :
    ∃ t, incDecMem f n s = .next t ∧ t.bus.mem.read s.hl = (f (s.bus.mem.read s.hl)).res ∧
      t.flag .z = (f (s.bus.mem.read s.hl)).z ∧ t.flag .n = n ∧ t.flag .h = (f (s.bus.mem.read s.hl)).h ∧
      DataOnly [] [.z, .n, .h] [s.hl] 12 s t := by
  refine ⟨_, rfl, by simp [State.busRead_ready _ _ h, h.quiet, Memory.read_write_same _ _ _ h.memWf],
    by simp [State.busRead_ready _ _ h, State.incDecFlags, FlagWrite.named],
    by simp [State.busRead_ready _ _ h, State.incDecFlags, FlagWrite.named],
    by simp [State.busRead_ready _ _ h, State.incDecFlags, FlagWrite.named], ?_⟩
  simp only [State.busRead_ready _ _ h]
  exact DataOnly.of_frame ((State.busWrite_frame s _ _ h).trans (State.setFlags_frame _ _ [.z, .n, .h]
      fun g hg => by cases g <;> simp_all [FlagWrite.named]))
    12 (by decide) (by simp) (by simp) ⟨by simp, by simp, by simp, by simp, by simp, by simp, by simp⟩

/-- The frame of a write of all four flags. -/
theorem State.shiftFlags_frame (s : State) (z cout : Bool) : Frame [] [.z, .n, .h, .c] [] s (s.shiftFlags z cout) :=
  State.setFlags_frame s _ _ fun g hg => absurd (by cases g <;> simp) hg

/-- The extended rotates and shifts of a register. -/
theorem rotReg_spec (op : RotOp) (r : Reg8) (s : State) (hr : r ≠ .f) :
    ∃ t, rotReg op r s = .next t ∧ t.get8 r = (rotate op (s.get8 r) (s.flag .c)).res ∧
      t.flag .z = isZero (rotate op (s.get8 r) (s.flag .c)).res ∧ t.flag .n = false ∧ t.flag .h = false ∧
      t.flag .c = (rotate op (s.get8 r) (s.flag .c)).cout ∧ DataOnly [r] [.z, .n, .h, .c] [] 8 s t := by
  refine ⟨_, rfl, by simp [State.shiftFlags, hr], by simp [State.shiftFlags, FlagWrite.named],
    by simp [State.shiftFlags, FlagWrite.named], by simp [State.shiftFlags, FlagWrite.named],
    by simp [State.shiftFlags, FlagWrite.named], ?_⟩
  exact DataOnly.of_frame ((State.set8_frame s r _ hr).trans (State.shiftFlags_frame _ _ _))
    8 (by decide) (by simp) (by simp) ⟨by simp, by simp, by simp, by simp, by simp, by simp, by simp⟩

/-- The extended rotates and shifts of the byte at HL. -/
theorem rotMem_spec (op : RotOp) (s : State) (h : s.BusReady) :
    ∃ t, rotMem op s = .next t ∧ t.bus.mem.read s.hl = (rotate op (s.bus.mem.read s.hl) (s.flag .c)).res ∧
      t.flag .z = isZero (rotate op (s.bus.mem.read s.hl) (s.flag .c)).res ∧ t.flag .n = false ∧
      t.flag .h = false ∧ t.flag .c = (rotate op (s.bus.mem.read s.hl) (s.flag .c)).cout ∧
      DataOnly [] [.z, .n, .h, .c] [s.hl] 16 s t := by
  refine ⟨_, rfl, by simp [State.busRead_ready _ _ h, h.quiet, Memory.read_write_same _ _ _ h.memWf],
    by simp [State.busRead_ready _ _ h, State.shiftFlags, FlagWrite.named],
    by simp [State.busRead_ready _ _ h, State.shiftFlags, FlagWrite.named],
    by simp [State.busRead_ready _ _ h, State.shiftFlags, FlagWrite.named],
    by simp [State.busRead_ready _ _ h, State.shiftFlags, FlagWrite.named], ?_⟩
  simp only [State.busRead_ready _ _ h]
  exact DataOnly.of_frame ((State.busWrite_frame s _ _ h).trans (State.shiftFlags_frame _ _ _))
    16 (by decide) (by simp) (by simp) ⟨by simp, by simp, by simp, by simp, by simp, by simp, by simp⟩

/-- RES and SET of a register are loads of the changed value; of the byte at HL, stores of it. -/
theorem changeReg_eq (f : Byte → Byte) (r : Reg8) (s : State) : changeReg f r s = loadReg r (f (s.get8 r)) 8 s := rfl

theorem changeMem_ready (f : Byte → Byte) (s : State) (h : s.BusReady) :
    changeMem f s = storeMem s.hl (f (s.bus.mem.read s.hl)) 16 s := by
  simp only [changeMem, storeMem, State.busRead_ready _ _ h]

/-- BIT on the byte at HL tests the byte and stores nothing. -/
theorem bitMem_ready (b : Fin 8) (s : State) (h : s.BusReady) :
    bitMem b s = .next ((s.bitFlags (testBit (s.bus.mem.read s.hl) b)).charge 12) := by
  simp only [bitMem, State.busRead_ready _ _ h]

theorem State.bitFlags_frame (s : State) (bit : Bool) : Frame [] [.z, .n, .h] [] s (s.bitFlags bit) :=
  State.setFlags_frame s _ _ fun g hg => by cases g <;> simp_all [FlagWrite.named]

end Sys2Proof.Machine
end

