-- ==== Sys2Proof/Tests/Slice0.lean ====
section
/-! SUPPORT. The model's own tests: the WellFormed smoke; the decoding of words written out from the encodings of
30_encoding.md; one step each of vectors of 95_test_vectors.md (results, costs and settings are that file's); the host's
entry points; and a witness for the hypotheses of each statement that has any. -/

namespace Sys2Proof.Tests

open Sys2Proof Sys2Proof.Machine Sys2Proof.Claims

/-! ### WellFormed -/

/-- The escape is no instruction (R156). -/
theorem test_escape_is_ill_formed : Instr.prefixCB.wellFormed = false := by decide

/-- An unpopulated slot is no instruction (R158). -/
theorem test_unpopulated_is_ill_formed : Instr.unpopulated_D3.wellFormed = false := by decide

theorem test_instruction_is_well_formed : (Instr.ld_B_n 0xFF#8).wellFormed = true := by decide

/-! ### Decoding, by the fields of R141-R149 -/

/-- The register field (R142). -/
def rField : OpReg → BitVec 3
  | .b => 0b000#3
  | .c => 0b001#3
  | .d => 0b010#3
  | .e => 0b011#3
  | .h => 0b100#3
  | .l => 0b101#3
  | .a => 0b111#3

/-- The pair field `rr` (R143). -/
def rrField : PairRR → BitVec 2
  | .bc => 0b00#2
  | .de => 0b01#2
  | .hl => 0b10#2
  | .sp => 0b11#2

/-- The pair field `qq` (R144). -/
def qqField : PairQQ → BitVec 2
  | .bc => 0b00#2
  | .de => 0b01#2
  | .hl => 0b10#2
  | .af => 0b11#2

/-- The condition field (R145). -/
def ccField : Cond → BitVec 2
  | .nz => 0b00#2
  | .z => 0b01#2
  | .nc => 0b10#2
  | .c => 0b11#2

/-- The ALU field (R146). -/
def aluField : AluOp → BitVec 3
  | .add => 0b000#3
  | .adc => 0b001#3
  | .sub => 0b010#3
  | .sbc => 0b011#3
  | .and => 0b100#3
  | .xor => 0b101#3
  | .or => 0b110#3
  | .cp => 0b111#3

/-- The field `y` of the extended group 0 (R147). -/
def rotField : RotOp → BitVec 3
  | .rlc => 0b000#3
  | .rrc => 0b001#3
  | .rl => 0b010#3
  | .rr => 0b011#3
  | .sla => 0b100#3
  | .sra => 0b101#3
  | .swap => 0b110#3
  | .srl => 0b111#3

/-- The three fields of an opcode byte: bits 7..6, 5..3, 2..0. -/
def opcode (x : BitVec 2) (y z : BitVec 3) : Byte := (x ++ y ++ z : BitVec 8)

/-- A pair field and the bit after it: bits 5..4 and 3. -/
def pairBits (p : BitVec 2) (q : BitVec 1) : BitVec 3 := (p ++ q : BitVec 3)

/-- A condition field in bits 4..3, with bit 5 before it. -/
def condBits (b : BitVec 1) (c : BitVec 2) : BitVec 3 := (b ++ c : BitVec 3)

theorem test_decode_ld_r_r (dst src : OpReg) :
    decode [opcode 0b01#2 (rField dst) (rField src)] = .ok (Instr.ldRR dst src, []) := by
  cases dst <;> cases src <;> rfl

theorem test_decode_ld_r_atHL (dst : OpReg) :
    decode [opcode 0b01#2 (rField dst) 0b110#3] = .ok (Instr.ldRAtHL dst, []) := by
  cases dst <;> rfl

theorem test_decode_ld_atHL_r (src : OpReg) :
    decode [opcode 0b01#2 0b110#3 (rField src)] = .ok (Instr.ldAtHLR src, []) := by
  cases src <;> rfl

theorem test_decode_ld_r_n (dst : OpReg) (n : Byte) :
    decode [opcode 0b00#2 (rField dst) 0b110#3, n] = .ok (Instr.ldRN dst n, []) := by
  cases dst <;> rfl

theorem test_decode_inc_dec_r (r : OpReg) :
    decode [opcode 0b00#2 (rField r) 0b100#3] = .ok (Instr.incR r, []) ∧
    decode [opcode 0b00#2 (rField r) 0b101#3] = .ok (Instr.decR r, []) := by
  cases r <;> exact ⟨rfl, rfl⟩

/-- The forms on `(HL)` of INC, DEC and LD (HL),n: the register field is 6. -/
theorem test_decode_atHL_forms (n : Byte) :
    decode [opcode 0b00#2 0b110#3 0b100#3] = .ok (.inc_atHL, []) ∧
    decode [opcode 0b00#2 0b110#3 0b101#3] = .ok (.dec_atHL, []) ∧
    decode [opcode 0b00#2 0b110#3 0b110#3, n] = .ok (.ld_atHL_n n, []) := ⟨rfl, rfl, rfl⟩

theorem test_decode_alu_r (op : AluOp) (src : OpReg) :
    decode [opcode 0b10#2 (aluField op) (rField src)] = .ok (Instr.aluR op src, []) := by
  cases op <;> cases src <;> rfl

theorem test_decode_alu_atHL_and_n (op : AluOp) (n : Byte) :
    decode [opcode 0b10#2 (aluField op) 0b110#3] = .ok (Instr.aluAtHL op, []) ∧
    decode [opcode 0b11#2 (aluField op) 0b110#3, n] = .ok (Instr.aluN op n, []) := by
  cases op <;> exact ⟨rfl, rfl⟩

/-- The immediate's low byte comes first (R151). -/
theorem test_decode_pairs (p : PairRR) (lo hi : Byte) :
    decode [opcode 0b00#2 (pairBits (rrField p) 0#1) 0b001#3, lo, hi] = .ok (Instr.ldRRNN p (wordOf hi lo), []) ∧
    decode [opcode 0b00#2 (pairBits (rrField p) 0#1) 0b011#3] = .ok (Instr.incRR p, []) ∧
    decode [opcode 0b00#2 (pairBits (rrField p) 1#1) 0b011#3] = .ok (Instr.decRR p, []) ∧
    decode [opcode 0b00#2 (pairBits (rrField p) 1#1) 0b001#3] = .ok (Instr.addHLRR p, []) := by
  cases p <;> exact ⟨rfl, rfl, rfl, rfl⟩

theorem test_decode_push_pop (q : PairQQ) :
    decode [opcode 0b11#2 (pairBits (qqField q) 0#1) 0b101#3] = .ok (Instr.pushQQ q, []) ∧
    decode [opcode 0b11#2 (pairBits (qqField q) 0#1) 0b001#3] = .ok (Instr.popQQ q, []) := by
  cases q <;> exact ⟨rfl, rfl⟩

theorem test_decode_conditional (cc : Cond) (lo hi : Byte) :
    decode [opcode 0b00#2 (condBits 1#1 (ccField cc)) 0b000#3, lo] = .ok (Instr.jrCC cc lo, []) ∧
    decode [opcode 0b11#2 (condBits 0#1 (ccField cc)) 0b000#3] = .ok (Instr.retCC cc, []) ∧
    decode [opcode 0b11#2 (condBits 0#1 (ccField cc)) 0b010#3, lo, hi] = .ok (Instr.jpCC cc (wordOf hi lo), []) ∧
    decode [opcode 0b11#2 (condBits 0#1 (ccField cc)) 0b100#3, lo, hi] = .ok (Instr.callCC cc (wordOf hi lo), []) := by
  cases cc <;> exact ⟨rfl, rfl, rfl, rfl⟩

theorem test_decode_rst (k : Fin 8) :
    decode [opcode 0b11#2 (BitVec.ofFin k) 0b111#3] = .ok (Instr.rstT k, []) := by
  fin_cases k <;> rfl

theorem test_decode_rotate (op : RotOp) (r : OpReg) :
    decode [0xCB#8, opcode 0b00#2 (rotField op) (rField r)] = .ok (Instr.rotR op r, []) ∧
    decode [0xCB#8, opcode 0b00#2 (rotField op) 0b110#3] = .ok (Instr.rotAtHL op, []) := by
  cases op <;> cases r <;> exact ⟨rfl, rfl⟩

theorem test_decode_bit_res_set (k : Fin 8) (r : OpReg) :
    decode [0xCB#8, opcode 0b01#2 (BitVec.ofFin k) (rField r)] = .ok (Instr.bitR k r, []) ∧
    decode [0xCB#8, opcode 0b10#2 (BitVec.ofFin k) (rField r)] = .ok (Instr.resR k r, []) ∧
    decode [0xCB#8, opcode 0b11#2 (BitVec.ofFin k) (rField r)] = .ok (Instr.setR k r, []) := by
  fin_cases k <;> cases r <;> exact ⟨rfl, rfl, rfl⟩

theorem test_decode_bit_res_set_atHL (k : Fin 8) :
    decode [0xCB#8, opcode 0b01#2 (BitVec.ofFin k) 0b110#3] = .ok (Instr.bitAtHL k, []) ∧
    decode [0xCB#8, opcode 0b10#2 (BitVec.ofFin k) 0b110#3] = .ok (Instr.resAtHL k, []) ∧
    decode [0xCB#8, opcode 0b11#2 (BitVec.ofFin k) 0b110#3] = .ok (Instr.setAtHL k, []) := by
  fin_cases k <;> exact ⟨rfl, rfl, rfl⟩

/-- The fixed patterns without operand (R157). -/
theorem test_decode_fixed :
    ([0x00#8, 0x02#8, 0x07#8, 0x0A#8, 0x0F#8, 0x12#8, 0x17#8, 0x1A#8, 0x1F#8, 0x22#8, 0x27#8, 0x2A#8, 0x2F#8, 0x32#8,
      0x37#8, 0x3A#8, 0x3F#8, 0x76#8, 0xC9#8, 0xD9#8, 0xE2#8, 0xE9#8, 0xF2#8, 0xF3#8, 0xF9#8, 0xFB#8].map
        fun b => (decode [b]).toOption.map Prod.fst) =
    [Instr.nop, .ld_atBC_A, .rlca, .ld_A_atBC, .rrca, .ld_atDE_A, .rla, .ld_A_atDE, .rra, .ld_atHLinc_A, .daa,
      .ld_A_atHLinc, .cpl, .ld_atHLdec_A, .scf, .ld_A_atHLdec, .ccf, .halt, .ret, .reti, .ld_atC_A, .jp_HL, .ld_A_atC,
      .di, .ld_SP_HL, .ei].map some := rfl

/-- The fixed patterns with an operand (R157). -/
theorem test_decode_fixed_with_operand (lo hi : Byte) :
    decode [0x08#8, lo, hi] = .ok (.ld_atnn_SP (wordOf hi lo), []) ∧
    decode [0x10#8, lo] = .ok (.stop lo, []) ∧ decode [0x18#8, lo] = .ok (.jr_e lo, []) ∧
    decode [0xC3#8, lo, hi] = .ok (.jp_nn (wordOf hi lo), []) ∧
    decode [0xCD#8, lo, hi] = .ok (.call_nn (wordOf hi lo), []) ∧
    decode [0xE0#8, lo] = .ok (.ldh_atn_A lo, []) ∧ decode [0xE8#8, lo] = .ok (.add_SP_e lo, []) ∧
    decode [0xEA#8, lo, hi] = .ok (.ld_atnn_A (wordOf hi lo), []) ∧
    decode [0xF0#8, lo] = .ok (.ldh_A_atn lo, []) ∧ decode [0xF8#8, lo] = .ok (.ld_HL_SPe lo, []) ∧
    decode [0xFA#8, lo, hi] = .ok (.ld_A_atnn (wordOf hi lo), []) :=
  ⟨rfl, rfl, rfl, rfl, rfl, rfl, rfl, rfl, rfl, rfl, rfl⟩

/-- The unpopulated slots (R158). -/
theorem test_decode_unpopulated :
    ([0xD3#8, 0xDB#8, 0xDD#8, 0xE3#8, 0xE4#8, 0xEB#8, 0xEC#8, 0xED#8, 0xF4#8, 0xFC#8, 0xFD#8].map
      fun b => (decode [b]).toOption.map Prod.fst) =
    [Instr.unpopulated_D3, .unpopulated_DB, .unpopulated_DD, .unpopulated_E3, .unpopulated_E4, .unpopulated_EB,
      .unpopulated_EC, .unpopulated_ED, .unpopulated_F4, .unpopulated_FC, .unpopulated_FD].map some := rfl

/-- A list that ends inside an instruction decodes to nothing, by name. -/
theorem test_decode_truncated :
    decode [0xC3#8, 0x00#8] = .error .truncated ∧ decode [0xCB#8] = .error .truncated ∧
    decode [] = .error .truncated := ⟨rfl, rfl, rfl⟩

/-! ### One step of vectors of 95_test_vectors.md -/

/-- The start of every vector: SP = 0xD000, PC = 0x0100, all else as after reset. -/
def start : State := { State.reset with pc := 0x0100#16, sp := 0xD000#16 }

/-- A state with a register set. -/
def withReg (s : State) (r : Reg8) (v : Byte) : State := s.set8 r v

/-- A state with a byte of the bus set. -/
def withByte (s : State) (a : Word) (v : Byte) : State :=
  { s with bus := { s.bus with mem := s.bus.mem.write a v } }

/-- What one step leaves, with the instruction's bytes placed at PC; none if the step stops. -/
def after {α : Type} (bytes : List Byte) (s : State) (f : State → α) : Option α :=
  match step { s with bus := { s.bus with mem := s.bus.mem.writeRange s.pc bytes } } with
  | .next t => some (f t)
  | _ => none

/-- V30-1 of 95_test_vectors.md. -/
theorem test_V30_1_LD_A_n :
    (after [0x3E#8] (withByte { start with pc := 0xFFFF#16 } 0x0000#16 0x99#8) fun t =>
      (t.get8 .a, t.pc, t.cyclesRemaining)) =
      some (0x99#8, 0x0001#16, 1) := by
  decide

/-- V30-2 of 95_test_vectors.md. -/
theorem test_V30_2_JP_nn :
    (after [0xC3#8] (withByte (withByte { start with pc := 0xFFFF#16 } 0x0000#16 0x34#8) 0x0001#16 0x12#8) fun t =>
      (t.pc, t.cyclesRemaining)) =
      some (0x1234#16, 3) := by
  decide

/-- V30-5 of 95_test_vectors.md. -/
theorem test_V30_5_RLC_A :
    (after [0xCB#8] (withByte { (withReg start .a 0x85#8) with pc := 0xFFFF#16 } 0x0000#16 0x07#8) fun t =>
      (t.get8 .a, t.get8 .f, t.pc, t.cyclesRemaining)) =
      some (0x0B#8, 0x10#8, 0x0001#16, 1) := by
  decide

/-- V30-6 of 95_test_vectors.md. -/
theorem test_V30_6_JR_NZ_e :
    (after [0x20#8, 0xFE#8] (withReg start .f 0x00#8) fun t =>
      (t.pc, t.cyclesRemaining)) =
      some (0x0100#16, 2) := by
  decide

/-- V40-1 of 95_test_vectors.md. -/
theorem test_V40_1_LD_B_C :
    (after [0x41#8] (withReg start .c 0x5A#8) fun t =>
      (t.get8 .b, t.pc, t.cyclesRemaining)) =
      some (0x5A#8, 0x0101#16, 0) := by
  decide

/-- V40-5 of 95_test_vectors.md. -/
theorem test_V40_5_LD_B_atHL :
    (after [0x46#8] (withByte (withReg (withReg start .h 0xC0#8) .l 0x10#8) 0xC010#16 0x77#8) fun t =>
      (t.get8 .b, t.pc, t.cyclesRemaining)) =
      some (0x77#8, 0x0101#16, 1) := by
  decide

/-- V40-9 of 95_test_vectors.md. -/
theorem test_V40_9_LD_A_nn :
    (after [0xFA#8, 0x34#8, 0x12#8] (withByte start 0x1234#16 0x5E#8) fun t =>
      (t.get8 .a, t.pc, t.cyclesRemaining)) =
      some (0x5E#8, 0x0103#16, 3) := by
  decide

/-- V40-12 of 95_test_vectors.md. -/
theorem test_V40_12_LDH_n_A :
    (after [0xE0#8, 0x0F#8] (withReg start .a 0x04#8) fun t =>
      (t.bus.mem.read 0xFF0F#16, t.pc, t.cyclesRemaining)) =
      some (0x04#8, 0x0102#16, 2) := by
  decide

/-- V40-15 of 95_test_vectors.md. -/
theorem test_V40_15_LD_HLinc_A :
    (after [0x22#8] (withReg (withReg (withReg start .a 0x01#8) .h 0xC0#8) .l 0xFF#8) fun t =>
      (t.get8 .h, t.get8 .l, t.bus.mem.read 0xC0FF#16, t.pc, t.cyclesRemaining)) =
      some (0xC1#8, 0x00#8, 0x01#8, 0x0101#16, 1) := by
  decide

/-- V40-18 of 95_test_vectors.md. -/
theorem test_V40_18_LD_A_HLdec :
    (after [0x3A#8] (withByte (withReg (withReg start .h 0xC0#8) .l 0x00#8) 0xC000#16 0x66#8) fun t =>
      (t.get8 .a, t.get8 .h, t.get8 .l, t.pc, t.cyclesRemaining)) =
      some (0x66#8, 0xBF#8, 0xFF#8, 0x0101#16, 1) := by
  decide

/-- V40-19 of 95_test_vectors.md. -/
theorem test_V40_19_LD_BC_nn :
    (after [0x01#8, 0x34#8, 0x12#8] start fun t =>
      (t.get8 .b, t.get8 .c, t.pc, t.cyclesRemaining)) =
      some (0x12#8, 0x34#8, 0x0103#16, 2) := by
  decide

/-- V40-21 of 95_test_vectors.md. -/
theorem test_V40_21_LD_nn_SP :
    (after [0x08#8, 0x00#8, 0xC0#8] { start with sp := 0xABCD#16 } fun t =>
      (t.bus.mem.read 0xC000#16, t.bus.mem.read 0xC001#16, t.pc, t.cyclesRemaining)) =
      some (0xCD#8, 0xAB#8, 0x0103#16, 4) := by
  decide

/-- V40-23 of 95_test_vectors.md. -/
theorem test_V40_23_LD_HL_SPe :
    (after [0xF8#8, 0x01#8] { start with sp := 0x00FF#16 } fun t =>
      (t.get8 .f, t.get8 .h, t.pc, t.cyclesRemaining)) =
      some (0x30#8, 0x01#8, 0x0102#16, 2) := by
  decide

/-- V40-28 of 95_test_vectors.md. -/
theorem test_V40_28_POP_AF :
    (after [0xF1#8] (withByte (withByte start 0xD000#16 0xFF#8) 0xD001#16 0x00#8) fun t =>
      (t.get8 .f, t.sp, t.pc, t.cyclesRemaining)) =
      some (0xFF#8, 0xD002#16, 0x0101#16, 2) := by
  decide

/-- V40-30 of 95_test_vectors.md. -/
theorem test_V40_30_PUSH_BC :
    (after [0xC5#8] { (withReg (withReg start .b 0x01#8) .c 0x02#8) with sp := 0x0000#16 } fun t =>
      (t.sp, t.bus.mem.read 0xFFFE#16, t.bus.mem.read 0xFFFF#16, t.pc, t.cyclesRemaining)) =
      some (0xFFFE#16, 0x02#8, 0x01#8, 0x0101#16, 3) := by
  decide

/-- V41-1 of 95_test_vectors.md. -/
theorem test_V41_1_ADD_A_B :
    (after [0x80#8] (withReg (withReg start .a 0x3A#8) .b 0xC6#8) fun t =>
      (t.get8 .a, t.get8 .f, t.pc, t.cyclesRemaining)) =
      some (0x00#8, 0xB0#8, 0x0101#16, 0) := by
  decide

/-- V41-11 of 95_test_vectors.md. -/
theorem test_V41_11_SUB_n :
    (after [0xD6#8, 0x40#8] (withReg start .a 0x3E#8) fun t =>
      (t.get8 .a, t.get8 .f, t.pc, t.cyclesRemaining)) =
      some (0xFE#8, 0x50#8, 0x0102#16, 1) := by
  decide

/-- V41-14 of 95_test_vectors.md. -/
theorem test_V41_14_SBC_A_n :
    (after [0xDE#8, 0xFF#8] (withReg (withReg start .a 0x00#8) .f 0x10#8) fun t =>
      (t.get8 .f, t.pc, t.cyclesRemaining)) =
      some (0xF0#8, 0x0102#16, 1) := by
  decide

/-- V41-17 of 95_test_vectors.md. -/
theorem test_V41_17_AND_n :
    (after [0xE6#8, 0x00#8] (withReg (withReg start .a 0xFF#8) .f 0x10#8) fun t =>
      (t.get8 .a, t.get8 .f, t.pc, t.cyclesRemaining)) =
      some (0x00#8, 0xA0#8, 0x0102#16, 1) := by
  decide

/-- V41-19 of 95_test_vectors.md. -/
theorem test_V41_19_XOR_A :
    (after [0xAF#8] (withReg (withReg start .a 0x77#8) .f 0x70#8) fun t =>
      (t.get8 .a, t.get8 .f, t.pc, t.cyclesRemaining)) =
      some (0x00#8, 0x80#8, 0x0101#16, 0) := by
  decide

/-- V41-24 of 95_test_vectors.md. -/
theorem test_V41_24_CP_n :
    (after [0xFE#8, 0x40#8] (withReg start .a 0x3C#8) fun t =>
      (t.get8 .f, t.pc, t.cyclesRemaining)) =
      some (0x50#8, 0x0102#16, 1) := by
  decide

/-- V41-25 of 95_test_vectors.md. -/
theorem test_V41_25_CP_atHL :
    (after [0xBE#8] (withByte (withReg (withReg (withReg start .a 0x10#8) .h 0xC0#8) .l 0x00#8) 0xC000#16 0x10#8) fun t =>
      (t.get8 .f, t.pc, t.cyclesRemaining)) =
      some (0xC0#8, 0x0101#16, 1) := by
  decide

/-- V41-33 of 95_test_vectors.md. -/
theorem test_V41_33_INC_atHL :
    (after [0x34#8] (withByte (withReg (withReg start .h 0xC0#8) .l 0x00#8) 0xC000#16 0x7F#8) fun t =>
      (t.get8 .f, t.bus.mem.read 0xC000#16, t.pc, t.cyclesRemaining)) =
      some (0x20#8, 0x80#8, 0x0101#16, 2) := by
  decide

/-- V41-36 of 95_test_vectors.md. -/
theorem test_V41_36_DAA :
    (after [0x27#8] (withReg start .a 0x9A#8) fun t =>
      (t.get8 .a, t.get8 .f, t.pc, t.cyclesRemaining)) =
      some (0x00#8, 0x90#8, 0x0101#16, 0) := by
  decide

/-- V41-40 of 95_test_vectors.md. -/
theorem test_V41_40_DAA :
    (after [0x27#8] (withReg (withReg start .a 0x0C#8) .f 0x60#8) fun t =>
      (t.get8 .a, t.get8 .f, t.pc, t.cyclesRemaining)) =
      some (0x06#8, 0x40#8, 0x0101#16, 0) := by
  decide

/-- V41-42 of 95_test_vectors.md. -/
theorem test_V41_42_CPL :
    (after [0x2F#8] (withReg (withReg start .a 0x35#8) .f 0x90#8) fun t =>
      (t.get8 .a, t.get8 .f, t.pc, t.cyclesRemaining)) =
      some (0xCA#8, 0xF0#8, 0x0101#16, 0) := by
  decide

/-- V41-43 of 95_test_vectors.md. -/
theorem test_V41_43_SCF :
    (after [0x37#8] (withReg start .f 0xE0#8) fun t =>
      (t.get8 .f, t.pc, t.cyclesRemaining)) =
      some (0x90#8, 0x0101#16, 0) := by
  decide

/-- V41-45 of 95_test_vectors.md. -/
theorem test_V41_45_CCF :
    (after [0x3F#8] (withReg start .f 0x80#8) fun t =>
      (t.get8 .f, t.pc, t.cyclesRemaining)) =
      some (0x90#8, 0x0101#16, 0) := by
  decide

/-- V41-47 of 95_test_vectors.md. -/
theorem test_V41_47_ADC_A_n :
    (after [0xCE#8, 0x80#8] (withReg (withReg start .a 0x80#8) .f 0x10#8) fun t =>
      (t.get8 .a, t.pc, t.cyclesRemaining)) =
      some (0x01#8, 0x0102#16, 1) := by
  decide

/-- V42-1 of 95_test_vectors.md. -/
theorem test_V42_1_ADD_HL_BC :
    (after [0x09#8] (withReg (withReg (withReg (withReg start .h 0x8A#8) .l 0x23#8) .b 0x06#8) .c 0x05#8) fun t =>
      (t.get8 .f, t.get8 .h, t.get8 .l, t.pc, t.cyclesRemaining)) =
      some (0x20#8, 0x90#8, 0x28#8, 0x0101#16, 1) := by
  decide

/-- V42-4 of 95_test_vectors.md. -/
theorem test_V42_4_ADD_HL_SP :
    (after [0x39#8] { (withReg (withReg start .h 0xFF#8) .l 0xFF#8) with sp := 0x0001#16 } fun t =>
      (t.get8 .f, t.get8 .h, t.get8 .l, t.pc, t.cyclesRemaining)) =
      some (0x30#8, 0x00#8, 0x00#8, 0x0101#16, 1) := by
  decide

/-- V42-6 of 95_test_vectors.md. -/
theorem test_V42_6_ADD_SP_e :
    (after [0xE8#8, 0xFF#8] { start with sp := 0x0001#16 } fun t =>
      (t.get8 .f, t.sp, t.pc, t.cyclesRemaining)) =
      some (0x30#8, 0x0000#16, 0x0102#16, 3) := by
  decide

/-- V42-11 of 95_test_vectors.md. -/
theorem test_V42_11_INC_SP :
    (after [0x33#8] { start with sp := 0xFFFF#16 } fun t =>
      (t.sp, t.pc, t.cyclesRemaining)) =
      some (0x0000#16, 0x0101#16, 1) := by
  decide

/-- V43-3 of 95_test_vectors.md. -/
theorem test_V43_3_RRCA :
    (after [0x0F#8] (withReg start .a 0x01#8) fun t =>
      (t.get8 .a, t.get8 .f, t.pc, t.cyclesRemaining)) =
      some (0x80#8, 0x10#8, 0x0101#16, 0) := by
  decide

/-- V43-7 of 95_test_vectors.md. -/
theorem test_V43_7_RRA :
    (after [0x1F#8] (withReg (withReg start .a 0x00#8) .f 0x10#8) fun t =>
      (t.get8 .a, t.get8 .f, t.pc, t.cyclesRemaining)) =
      some (0x80#8, 0x00#8, 0x0101#16, 0) := by
  decide

/-- V43-8 of 95_test_vectors.md. -/
theorem test_V43_8_RLC_A :
    (after [0xCB#8, 0x07#8] (withReg start .a 0x85#8) fun t =>
      (t.get8 .a, t.get8 .f, t.pc, t.cyclesRemaining)) =
      some (0x0B#8, 0x10#8, 0x0102#16, 1) := by
  decide

/-- V43-10 of 95_test_vectors.md. -/
theorem test_V43_10_RRC_C :
    (after [0xCB#8, 0x09#8] (withReg start .c 0x01#8) fun t =>
      (t.get8 .f, t.get8 .c, t.pc, t.cyclesRemaining)) =
      some (0x10#8, 0x80#8, 0x0102#16, 1) := by
  decide

/-- V43-11 of 95_test_vectors.md. -/
theorem test_V43_11_RL_D :
    (after [0xCB#8, 0x12#8] (withReg start .d 0x80#8) fun t =>
      (t.get8 .f, t.get8 .d, t.pc, t.cyclesRemaining)) =
      some (0x90#8, 0x00#8, 0x0102#16, 1) := by
  decide

/-- V43-14 of 95_test_vectors.md. -/
theorem test_V43_14_SRA_L :
    (after [0xCB#8, 0x2D#8] (withReg start .l 0x81#8) fun t =>
      (t.get8 .f, t.get8 .l, t.pc, t.cyclesRemaining)) =
      some (0x10#8, 0xC0#8, 0x0102#16, 1) := by
  decide

/-- V43-15 of 95_test_vectors.md. -/
theorem test_V43_15_SWAP_A :
    (after [0xCB#8, 0x37#8] (withReg (withReg start .a 0xF1#8) .f 0x10#8) fun t =>
      (t.get8 .a, t.get8 .f, t.pc, t.cyclesRemaining)) =
      some (0x1F#8, 0x00#8, 0x0102#16, 1) := by
  decide

/-- V43-19 of 95_test_vectors.md. -/
theorem test_V43_19_SRL_atHL :
    (after [0xCB#8, 0x3E#8] (withByte (withReg (withReg start .h 0xC0#8) .l 0x00#8) 0xC000#16 0xFF#8) fun t =>
      (t.get8 .f, t.bus.mem.read 0xC000#16, t.pc, t.cyclesRemaining)) =
      some (0x10#8, 0x7F#8, 0x0102#16, 3) := by
  decide

/-- V44-2 of 95_test_vectors.md. -/
theorem test_V44_2_BIT_7_H :
    (after [0xCB#8, 0x7C#8] (withReg (withReg start .h 0x7F#8) .f 0x10#8) fun t =>
      (t.get8 .f, t.pc, t.cyclesRemaining)) =
      some (0xB0#8, 0x0102#16, 1) := by
  decide

/-- V44-4 of 95_test_vectors.md. -/
theorem test_V44_4_BIT_0_atHL :
    (after [0xCB#8, 0x46#8] (withByte (withReg (withReg start .h 0xC0#8) .l 0x00#8) 0xC000#16 0xFE#8) fun t =>
      (t.get8 .f, t.pc, t.cyclesRemaining)) =
      some (0xA0#8, 0x0102#16, 2) := by
  decide

/-- V44-5 of 95_test_vectors.md. -/
theorem test_V44_5_RES_0_A :
    (after [0xCB#8, 0x87#8] (withReg (withReg start .a 0xFF#8) .f 0xF0#8) fun t =>
      (t.get8 .a, t.pc, t.cyclesRemaining)) =
      some (0xFE#8, 0x0102#16, 1) := by
  decide

/-- V44-6 of 95_test_vectors.md. -/
theorem test_V44_6_RES_7_atHL :
    (after [0xCB#8, 0xBE#8] (withByte (withReg (withReg start .h 0xC0#8) .l 0x00#8) 0xC000#16 0xFF#8) fun t =>
      (t.bus.mem.read 0xC000#16, t.pc, t.cyclesRemaining)) =
      some (0x7F#8, 0x0102#16, 3) := by
  decide

/-- V45-3 of 95_test_vectors.md. -/
theorem test_V45_3_JP_NZ_nn :
    (after [0xC2#8, 0x00#8, 0x20#8] (withReg start .f 0x80#8) fun t =>
      (t.pc, t.cyclesRemaining)) =
      some (0x0103#16, 2) := by
  decide

/-- V45-4 of 95_test_vectors.md. -/
theorem test_V45_4_JP_C_nn :
    (after [0xDA#8, 0x00#8, 0x20#8] (withReg start .f 0x10#8) fun t =>
      (t.pc, t.cyclesRemaining)) =
      some (0x2000#16, 3) := by
  decide

/-- V45-5 of 95_test_vectors.md. -/
theorem test_V45_5_JP_HL :
    (after [0xE9#8] (withReg (withReg start .h 0x40#8) .l 0x00#8) fun t =>
      (t.pc, t.cyclesRemaining)) =
      some (0x4000#16, 0) := by
  decide

/-- V45-10 of 95_test_vectors.md. -/
theorem test_V45_10_JR_NZ_e :
    (after [0x20#8, 0x05#8] (withReg start .f 0x80#8) fun t =>
      (t.pc, t.cyclesRemaining)) =
      some (0x0102#16, 1) := by
  decide

/-- V45-14 of 95_test_vectors.md. -/
theorem test_V45_14_CALL_NZ_nn :
    (after [0xC4#8, 0x00#8, 0x02#8] { (withReg start .f 0x80#8) with sp := 0xFFFE#16 } fun t =>
      (t.pc, t.cyclesRemaining)) =
      some (0x0103#16, 2) := by
  decide

/-- V45-15 of 95_test_vectors.md. -/
theorem test_V45_15_CALL_Z_nn :
    (after [0xCC#8, 0x00#8, 0x02#8] { (withReg start .f 0x80#8) with sp := 0xFFFE#16 } fun t =>
      (t.sp, t.bus.mem.read 0xFFFC#16, t.bus.mem.read 0xFFFD#16, t.pc, t.cyclesRemaining)) =
      some (0xFFFC#16, 0x03#8, 0x01#8, 0x0200#16, 5) := by
  decide

/-- V45-16 of 95_test_vectors.md. -/
theorem test_V45_16_RET :
    (after [0xC9#8] (withByte (withByte { start with sp := 0xFFFC#16 } 0xFFFC#16 0x03#8) 0xFFFD#16 0x01#8) fun t =>
      (t.sp, t.pc, t.cyclesRemaining)) =
      some (0xFFFE#16, 0x0103#16, 3) := by
  decide

/-- V45-19 of 95_test_vectors.md. -/
theorem test_V45_19_RETI :
    (after [0xD9#8] (withByte (withByte { start with sp := 0xFFFC#16 } 0xFFFC#16 0x03#8) 0xFFFD#16 0x01#8) fun t =>
      (t.sp, t.ime, t.pc, t.cyclesRemaining)) =
      some (0xFFFE#16, true, 0x0103#16, 3) := by
  decide

/-- V45-21 of 95_test_vectors.md. -/
theorem test_V45_21_RST_00h :
    (after [0xC7#8] { start with sp := 0xFFFE#16, pc := 0x1234#16 } fun t =>
      (t.sp, t.bus.mem.read 0xFFFC#16, t.bus.mem.read 0xFFFD#16, t.pc, t.cyclesRemaining)) =
      some (0xFFFC#16, 0x35#8, 0x12#8, 0x0000#16, 3) := by
  decide

/-- V46-2 of 95_test_vectors.md. -/
theorem test_V46_2_DI :
    (after [0xF3#8] { start with ime := true, eiPending := true } fun t =>
      (t.ime, t.eiPending, t.pc, t.cyclesRemaining)) =
      some (false, false, 0x0101#16, 0) := by
  decide

/-- V46-3 of 95_test_vectors.md. -/
theorem test_V46_3_EI :
    (after [0xFB#8] start fun t =>
      (t.eiPending, t.pc, t.cyclesRemaining)) =
      some (true, 0x0101#16, 0) := by
  decide

/-- V46-4 of 95_test_vectors.md. -/
theorem test_V46_4_HALT :
    (after [0x76#8] start fun t =>
      (t.mode, t.pc, t.cyclesRemaining)) =
      some (Mode.halted, 0x0101#16, 0) := by
  decide

/-- V46-5 of 95_test_vectors.md. -/
theorem test_V46_5_HALT :
    (after [0x76#8] (withByte (withByte start 0xFFFF#16 0x01#8) 0xFF0F#16 0x01#8) fun t =>
      (t.haltBug, t.pc, t.cyclesRemaining)) =
      some (true, 0x0101#16, 0) := by
  decide

/-- V46-8 of 95_test_vectors.md. -/
theorem test_V46_8_STOP :
    (after [0x10#8, 0x5A#8] start fun t =>
      (t.mode, t.pc, t.cyclesRemaining)) =
      some (Mode.stopped, 0x0102#16, 0) := by
  decide

/-- V46-10 of 95_test_vectors.md. -/
theorem test_V46_10_LD_A_n :
    (after [0x3E#8, 0x14#8] { start with haltBug := true } fun t =>
      (t.get8 .a, t.haltBug, t.pc, t.cyclesRemaining)) =
      some (0x3E#8, false, 0x0101#16, 1) := by
  decide

/-- V60-D3 of 95_test_vectors.md, and R488: nothing but the record and the mode changes; the engine is excluded. -/
theorem test_V60_D3_fault :
    (after [0xD3#8] (withReg start .a 0x12#8) fun t =>
      (t.get8 .a, t.pc, t.mode, t.fault, t.sched.excluded)) =
      some (0x12#8, 0x0100#16, .faulted .invalidOpcode,
        some { kind := .invalidOpcode, pc := 0x0100#16, bytes := [0xD3#8] }, [.engine]) := by
  decide

/-- T3 of 95_test_vectors.md, tick 14: the dispatch of the Timer source. -/
theorem test_T3_dispatch :
    (after [] (withByte (withByte { start with pc := 0x000B#16, sp := 0xFFFE#16, ime := true } 0xFFFF#16 0x04#8)
        0xFF0F#16 0x04#8) fun t =>
      ((t.pc, t.sp, t.ime), t.bus.mem.read 0xFF0F#16, t.bus.mem.read 0xFFFD#16, t.bus.mem.read 0xFFFC#16)) =
      some ((0x0050#16, 0xFFFC#16, false), 0x00#8, 0x00#8, 0x0B#8) := by
  decide

/-- R171: a Halted tick with a request sets Running and nothing else. -/
theorem test_halted_tick_wakes :
    (after [] (withByte (withByte { start with mode := .halted } 0xFFFF#16 0x01#8) 0xFF0F#16 0x01#8) fun t =>
      (t.mode, t.pc, t.ime)) = some (.running, 0x0100#16, false) := by
  decide

/-- V40-28 under `F_LOW_MODE = ZERO`, as the notes on section 2 of 95_test_vectors.md give it. -/
theorem test_V40_28_POP_AF_zero_mode :
    (after [0xF1#8] (withByte { start with cfg := { start.cfg with fLowMode := .zero } } 0xD000#16 0xFF#8) fun t =>
      (t.get8 .f, t.sp)) = some (0xF0#8, 0xD002#16) := by
  decide

/-- T2 of 95_test_vectors.md: `LD B,n` leaves a debt of 2 under `BUSY_AFTER = N`. -/
theorem test_T2_busy_after_n :
    (after [0x06#8, 0x00#8] { start with cfg := { start.cfg with busyAfter := .n } } fun t => t.cyclesRemaining) =
      some 2 := by
  decide

/-- The last note of T4 of 95_test_vectors.md: a placeholder's write to IF racing with a Halted tick wakes it in this
sub-cycle if it falls before the tick's reads, and not if it falls after them. -/
theorem test_T4_race :
    (after [] (withByte { start with
        mode := .halted
        sched := { start.sched with
          placeholders := [{ divisor := .one, work := [[.write 0xFF0F#16 0x01#8]] }]
          orders := [[.placeholder 0]] } } 0xFFFF#16 0x01#8) fun t => (t.mode, t.bus.mem.read 0xFF0F#16)) =
      some (.running, 0x01#8) ∧
    (after [] (withByte { start with
        mode := .halted
        sched := { start.sched with
          placeholders := [{ divisor := .one, work := [[.write 0xFF0F#16 0x01#8]] }] } } 0xFFFF#16 0x01#8) fun t =>
        (t.mode, t.bus.mem.read 0xFF0F#16)) =
      some (.halted, 0x01#8) := by
  decide

/-! ### The host's entry points -/

theorem test_table_words :
    decodeTableWord 8 0x80 = some .add_A_B ∧ decodeTableWord 8 0x06 = some (.ld_B_n 0x00#8) ∧
    decodeTableWord 8 0xC3 = some (.jp_nn 0x0000#16) ∧ decodeTableWord 16 0xCB07 = some .rlc_A ∧
    decodeTableWord 16 0xCBCB = some .set_1_E ∧ decodeTableWord 8 0xD3 = some .unpopulated_D3 := by
  decide

theorem test_fetch_word_runs :
    (match step (State.reset.withFetchWord 8 0x3C) with
      | .next t => some (t.get8 .a, t.pc)
      | _ => none) = some (0x01#8, 0x0001#16) ∧
    (match step (State.reset.withFetchWord 16 0xCBC7) with
      | .next t => some (t.get8 .a, t.pc)
      | _ => none) = some (0x01#8, 0x0002#16) := by
  decide

/-- R480: a divisor other than 1, 2 and 4 is refused. -/
theorem test_divisors : [0, 1, 2, 3, 4, 5].map Divisor.ofNat? = [none, some .one, some .two, none, some .four, none] := by
  decide

/-! ### Witnesses: each statement's hypotheses are met -/

theorem reset_ready : State.reset.BusReady := ⟨by decide, rfl⟩

/-- SP at the two ends of the address space: a push wraps below 0x0000, a pop above 0xFFFF. -/
theorem ends_ready : { State.reset with sp := 0x0000#16 }.BusReady ∧ { State.reset with sp := 0xFFFF#16 }.BusReady :=
  ⟨⟨by decide, rfl⟩, ⟨by decide, rfl⟩⟩

/-- Both settings of `F_LOW_MODE`, the first also with F among the two registers. -/
theorem witness_PairViewReadsBackWhatIsSplit :
    (Reg8.a ≠ .f ∧ (State.reset.cfg.fLowMode = .asWritten ∨ (Reg8.a ≠ .f ∧ Reg8.f ≠ .f))) ∧
    (Reg8.h ≠ .l ∧ ({ State.reset with cfg := { Config.default with fLowMode := .zero } }.cfg.fLowMode = .asWritten ∨
      (Reg8.h ≠ .f ∧ Reg8.l ≠ .f))) := by
  decide

theorem witness_LoadRegister : State.reset.BusReady := reset_ready
theorem witness_StoreAtHL : State.reset.BusReady := reset_ready
theorem witness_LoadAccumulatorFromMemory : State.reset.BusReady := reset_ready
theorem witness_StoreAccumulatorToMemory : State.reset.BusReady := reset_ready
theorem witness_StoreStackPointerLittleEndian : State.reset.BusReady := reset_ready
theorem witness_PushStoresPairBelowStackTop : { State.reset with sp := 0x0000#16 }.BusReady := ends_ready.1

theorem witness_PopLoadsPairFromStackTop :
    { State.reset with sp := 0xFFFF#16 }.BusReady ∧ PairQQ.bc ≠ .af ∧ State.reset.cfg.fLowMode = .asWritten ∧
    ({ Config.default with fLowMode := .zero } : Config).fLowMode = .zero := ⟨ends_ready.2, by decide, rfl, rfl⟩

theorem witness_PushThenPopRestoresPair :
    State.reset.BusReady ∧ (PairQQ.af = .af → State.reset.cfg.fLowMode = .asWritten) := ⟨reset_ready, fun _ => rfl⟩

theorem witness_AddWithAndWithoutCarry : AluForm.atHL = .atHL → State.reset.BusReady := fun _ => reset_ready
theorem witness_SubtractBorrowAndCompare : AluForm.atHL = .atHL → State.reset.BusReady := fun _ => reset_ready
theorem witness_BitwiseLogicOnAccumulator : AluForm.atHL = .atHL → State.reset.BusReady := fun _ => reset_ready
theorem witness_IncrementDecrementByte : State.reset.BusReady := reset_ready

/-- Both branches of DAA. -/
theorem witness_DecimalAdjust : State.reset.flag .n = false ∧ (withReg State.reset .f 0x40#8).flag .n = true := by decide

theorem witness_IncrementDecrementPair : PairRR.bc ≠ .sp := by decide

theorem witness_AccumulatorRotatesClearZero :
    (RotOp.rlc, Instr.rlca) ∈ [(RotOp.rlc, Instr.rlca), (.rrc, .rrca), (.rl, .rla), (.rr, .rra)] ∧
    (RotOp.rr, Instr.rra) ∈ [(RotOp.rlc, Instr.rlca), (.rrc, .rrca), (.rl, .rla), (.rr, .rra)] := by decide

theorem witness_RotateShiftMemory : State.reset.BusReady := reset_ready
theorem witness_BitTestSetsZeroFromBit : State.reset.BusReady := reset_ready

/-- The lowest and the highest bit. -/
theorem witness_ResetSetBit : State.reset.BusReady ∧ (0 : Fin 8).val < 8 ∧ (7 : Fin 8).val < 8 :=
  ⟨reset_ready, by decide, by decide⟩

theorem witness_ReadModifyWriteLosesConcurrentWrite :
    let s := { State.reset with bus := { mem := { cells := [] }, gaps := [[], [.write State.reset.hl 0x55#8]] } };
    s.bus.mem.wf = true ∧ s.bus.gaps = [[], [.write s.hl 0x55#8]] := by decide

/-- Every condition is met in one of these states and not in the other. -/
theorem witness_ConditionalJumps :
    (holds State.reset .nz ∧ ¬ holds State.reset .z ∧ holds State.reset .nc ∧ ¬ holds State.reset .c) ∧
    (¬ holds (withReg State.reset .f 0x90#8) .nz ∧ holds (withReg State.reset .f 0x90#8) .z ∧
      ¬ holds (withReg State.reset .f 0x90#8) .nc ∧ holds (withReg State.reset .f 0x90#8) .c) := by
  simp only [holds]
  decide

theorem witness_CallsPushNextAddress :
    { State.reset with sp := 0x0000#16 }.BusReady ∧ holds State.reset .nz ∧ ¬ holds State.reset .z :=
  ⟨ends_ready.1, by simp only [holds]; decide, by simp only [holds]; decide⟩

theorem witness_ReturnsPopAddress :
    { State.reset with sp := 0xFFFF#16 }.BusReady ∧ holds State.reset .nc ∧ ¬ holds State.reset .c :=
  ⟨ends_ready.2, by simp only [holds]; decide, by simp only [holds]; decide⟩

theorem witness_CallThenReturnResumes : State.reset.BusReady := reset_ready

/-- IE and IF both 0x01: VBlank is enabled and requested. -/
def requesting : State := withByte (withByte start 0xFFFF#16 0x01#8) 0xFF0F#16 0x01#8

theorem requesting_ready : requesting.BusReady := ⟨by decide, by decide⟩

/-- The three outcomes of HALT. -/
theorem witness_HaltForms :
    State.reset.BusReady ∧ requested State.reset = 0x00#8 ∧ requesting.BusReady ∧ requested requesting ≠ 0x00#8 ∧
    requesting.ime = false ∧ { requesting with ime := true }.BusReady ∧
    requested { requesting with ime := true } ≠ 0x00#8 ∧ { requesting with ime := true }.ime = true :=
  ⟨reset_ready, by decide, requesting_ready, by decide, by decide,
    ⟨requesting_ready.memWf, requesting_ready.quiet⟩, by decide, rfl⟩

theorem witness_StopEntersStoppedForGood :
    { State.reset with mode := .stopped }.mode = .stopped ∧ { State.reset with mode := .stopped }.cyclesRemaining = 0 :=
  ⟨rfl, rfl⟩

theorem witness_EscapeConsultsExtendedTable : State.reset.BusReady := reset_ready

/-- The first and the last unpopulated slot. -/
theorem witness_UnpopulatedSlotsRaiseInvalidOpcode :
    (0xD3#8, Instr.unpopulated_D3) ∈ Instr.unpopulatedSlots ∧ (0xFD#8, Instr.unpopulated_FD) ∈ Instr.unpopulatedSlots := by
  decide

theorem witness_OnlyPopAFChangesLowNibbleOfF :
    Instr.scf ≠ .pop_AF ∧ exec .scf State.reset = .next (((State.reset.setFlags
      { n := some false, h := some false, c := some true })).charge 4) := ⟨by decide, rfl⟩

theorem witness_OnlySystemRowsChangeEngineState :
    exec .nop State.reset = .next (State.reset.charge 4) ∧ Instr.nop ∉ [Instr.di, .ei, .reti, .halt] ∧
    (∀ n, Instr.nop ≠ .stop n) ∧ Instr.nop.isUnpopulated = false :=
  ⟨rfl, by decide, fun _ h => Instr.noConfusion h, by decide⟩

/-- A taken and a not-taken `JR NZ`, and an opcode without condition at each end of the table. -/
theorem witness_BaseOpcodeCosts :
    decode [0x20#8, 0x05#8, 0x00#8] = .ok (.jr_NZ_e 0x05#8, [0x00#8]) ∧ (Instr.jr_NZ_e 0x05#8).wellFormed = true ∧
    holds State.reset .nz ∧ ¬ holds (withReg State.reset .f 0x80#8) .nz ∧
    (∃ t, exec (.jr_NZ_e 0x05#8) State.reset = .next t) ∧ (∃ t, exec (.jr_NZ_e 0x05#8) (withReg State.reset .f 0x80#8) = .next t) ∧
    decode [0x00#8, 0x00#8, 0x00#8] = .ok (.nop, [0x00#8, 0x00#8]) ∧
    decode [0xFF#8, 0x00#8, 0x00#8] = .ok (.rst_38h, [0x00#8, 0x00#8]) :=
  ⟨rfl, by decide, by simp only [holds]; decide, by simp only [holds]; decide, ⟨_, rfl⟩, ⟨_, rfl⟩, rfl, rfl⟩

/-- A register, the tested byte at HL and a changed byte at HL. -/
theorem witness_ExtendedOpcodeCosts :
    decode [0xCB#8, 0x00#8] = .ok (.rlc_B, []) ∧ (∃ t, exec .rlc_B State.reset = .next t) ∧
    decode [0xCB#8, 0x7E#8] = .ok (.bit_7_atHL, []) ∧ (∃ t, exec .bit_7_atHL State.reset = .next t) ∧
    decode [0xCB#8, 0xFE#8] = .ok (.set_7_atHL, []) ∧ (∃ t, exec .set_7_atHL State.reset = .next t) :=
  ⟨rfl, ⟨_, rfl⟩, rfl, ⟨_, rfl⟩, rfl, ⟨_, rfl⟩⟩

theorem witness_DecodeOfEncodeIsTheInstruction : Instr.nop.wellFormed = true := by decide

theorem witness_EncodeOfDecodeIsTheBytes : decode [0xC3#8, 0x50#8, 0x01#8, 0xAA#8] = .ok (.jp_nn 0x0150#16, [0xAA#8]) := rfl

theorem reset_othersIdle : OthersIdle State.reset := by
  unfold OthersIdle
  decide

theorem reset_fetching : Fetching State.reset := ⟨rfl, rfl, .inr (.inl rfl)⟩

/-- An empty memory decodes to NOP; also under the halt bug. -/
theorem witness_StepRunsTheDecodedInstruction :
    State.reset.BusReady ∧ OthersIdle State.reset ∧ Fetching State.reset ∧
    State.reset.sched.dispatches .engine = true ∧ decode (streamBytes State.reset) = .ok (.nop, [0x00#8, 0x00#8]) ∧
    decode (streamBytes { State.reset with haltBug := true }) = .ok (.nop, [0x00#8, 0x00#8]) ∧
    Instr.nop.wellFormed = true :=
  ⟨reset_ready, reset_othersIdle, reset_fetching, by decide, rfl, rfl, by decide⟩

theorem witness_BusyTickOnlyDecrements :
    State.reset.mode.isFaulted = false ∧ 0 < { State.reset with cyclesRemaining := 1 }.cyclesRemaining ∧
    { State.reset with mode := .faulted .invalidOpcode }.mode.isFaulted = true := by decide

theorem witness_HaltedTickWakesOnRequest :
    { State.reset with mode := .halted }.BusReady ∧ requested { State.reset with mode := .halted } = 0x00#8 ∧
    { requesting with mode := .halted }.BusReady ∧ requested { requesting with mode := .halted } ≠ 0x00#8 ∧
    { requesting with mode := .halted }.cyclesRemaining = 0 :=
  ⟨⟨by decide, rfl⟩, by decide, ⟨requesting_ready.memWf, requesting_ready.quiet⟩, by decide, by decide⟩

/-- The lowest source and the highest one alone. -/
theorem witness_InterruptDispatchServesLowestSource :
    (let s := { requesting with ime := true };
      s.mode = .running ∧ s.cyclesRemaining = 0 ∧ s.cfg.irqDispatch = true ∧ s.ime = true ∧
      (requested s).getLsbD 0 = true ∧ (∀ j < 0, (requested s).getLsbD j = false) ∧
      s.sp - 1 ≠ 0xFF0F#16 ∧ s.sp - 2 ≠ 0xFF0F#16) ∧
    (let s := { withByte (withByte start 0xFFFF#16 0xF0#8) 0xFF0F#16 0xF0#8 with ime := true };
      (requested s).getLsbD 4 = true ∧ (∀ j < 4, (requested s).getLsbD j = false)) := by
  decide

/-- EI pending at a NOP, and at a DI. -/
theorem witness_EnableTakesEffectOneInstructionLater :
    { State.reset with eiPending := true }.BusReady ∧ Fetching { State.reset with eiPending := true } ∧
    decode (streamBytes { State.reset with eiPending := true }) = .ok (.nop, [0x00#8, 0x00#8]) ∧
    (let s := withByte { State.reset with eiPending := true } 0x0000#16 0xF3#8;
      s.BusReady ∧ Fetching s ∧ decode (streamBytes s) = .ok (.di, [0x00#8, 0x00#8])) :=
  ⟨⟨by decide, rfl⟩, ⟨rfl, rfl, .inr (.inl rfl)⟩, rfl, ⟨by decide, rfl⟩, ⟨rfl, rfl, .inr (.inl rfl)⟩, rfl⟩

theorem reset_inv : State.reset.Inv where
  memWf := by decide
  quiet := rfl
  noFaultMode _ := rfl
  faultMode _ h := by cases h
  faultPlace _ h := by cases h
  faultIdle h := Bool.noConfusion h
  excluded := rfl
  reported := rfl
  debt := by decide
  haltBugRuns h := Bool.noConfusion h
  lowF h := by decide

/-- Reset with an unpopulated slot at the reset entry point. -/
def atSlot : State := withByte State.reset 0x0000#16 0xD3#8

theorem witness_InvalidOpcodeIsPreciseAndReported :
    atSlot.Inv ∧ OthersIdle atSlot ∧ Fetching atSlot ∧ atSlot.sched.sub = 0 ∧
    (0xD3#8, Instr.unpopulated_D3) ∈ Instr.unpopulatedSlots ∧ atSlot.bus.mem.read atSlot.pc = 0xD3#8 :=
  ⟨{ reset_inv with memWf := by decide }, reset_othersIdle, ⟨rfl, rfl, .inr (.inl rfl)⟩, rfl, by decide,
    by decide⟩

/-- Reset after the fault of the slot at its entry point. -/
def afterFault : State :=
  { atSlot with
    fault := some { kind := .invalidOpcode, pc := 0x0000#16, bytes := [0xD3#8] }
    mode := .faulted .invalidOpcode
    sched := { atSlot.sched with
      excluded := [.engine]
      reports := [{ source := .engine, record := { kind := .invalidOpcode, pc := 0x0000#16, bytes := [0xD3#8] } }] } }

theorem afterFault_inv : afterFault.Inv where
  memWf := by decide
  quiet := rfl
  noFaultMode h := by cases h
  faultMode r h := by cases h; exact ⟨rfl, rfl⟩
  faultPlace r h := by cases h; exact ⟨rfl, by decide⟩
  faultIdle _ := rfl
  excluded := rfl
  reported := rfl
  debt := by decide
  haltBugRuns h := Bool.noConfusion h
  lowF h := by decide

theorem witness_FaultedEngineStaysFrozen :
    afterFault.Inv ∧ afterFault.fault.isSome = true ∧ ∃ t, Host.Core.run Sys2Proof.core 1 afterFault = .next t :=
  ⟨afterFault_inv, rfl, _, rfl⟩

/-- Only a state that no run reaches meets them: the mode stands before the step. -/
theorem witness_MalformedOperandFetchNeverFires :
    ∃ t, step { State.reset with mode := .faulted .malformedOperandFetch } = .next t ∧
      t.mode = .faulted .malformedOperandFetch := ⟨_, rfl, rfl⟩

/-- Both placeholders of the default list, a fault and none. -/
theorem witness_DispatchesPerMacroStep :
    State.reset.Inv ∧ State.reset.fault = none ∧ State.reset.sched.sub = 0 ∧
    State.reset.sched.placeholders[0]? = some { divisor := .one, work := [] } ∧
    State.reset.sched.placeholders[1]? = some { divisor := .four, work := [] } ∧ afterFault.Inv ∧
    afterFault.sched.sub = 0 := ⟨reset_inv, rfl, rfl, rfl, rfl, afterFault_inv, rfl⟩

theorem witness_RunEndsAtMacroBound : State.reset.sched.macroStep = 0 ∧ State.reset.sched.sub = 0 := ⟨rfl, rfl⟩

/-- A launch with a boot image that wraps past 0xFFFF. -/
def aLaunch : Launch :=
  { initMem := { cells := [(0x0000, 0x11#8), (0x8000, 0x22#8)] }
    bootStart := 0xFFFF#16
    bootBytes := [0xAA#8, 0xBB#8]
    placeholders := Placeholder.defaults
    orders := []
    cfg := Config.default }

theorem witness_LaunchStateIsResetState :
    aLaunch.wf = true ∧ aLaunch.bootBytes[0]? = some 0xAA#8 ∧ aLaunch.bootBytes[1]? = some 0xBB#8 ∧
    (∀ i < aLaunch.bootBytes.length, (0x8000#16 : Word) ≠ aLaunch.bootStart + BitVec.ofNat 16 i) := by
  decide

theorem witness_ResetAndLaunchMeetInvariant : aLaunch.wf = true := by decide

theorem witness_StepKeepsInvariant :
    State.reset.Inv ∧ (∃ t, step State.reset = .next t) ∧ afterFault.Inv ∧ ∃ t, step afterFault = .next t :=
  ⟨reset_inv, ⟨_, rfl⟩, afterFault_inv, ⟨_, rfl⟩⟩

end Sys2Proof.Tests
end

section
/-! What the rows of the opcode table keep of the machine's own state, in every state and whatever other units do on
the bus: the ordinary rows (`Ordinary`), the five rows about the latches and the mode (`LatchesOnly`), POP AF, and the
unpopulated slots. -/

namespace Sys2Proof

/-- The rows that may change a latch or the mode: DI, EI, RETI, HALT and STOP (R43-R48). -/
def Instr.changesLatches : Instr → Bool
  | .di | .ei | .reti | .halt | .stop _ => true
  | _ => false

theorem Instr.changesLatches_iff (i : Instr) :
    i.changesLatches = true ↔ i = .di ∨ i = .ei ∨ i = .reti ∨ i = .halt ∨ ∃ n, i = .stop n := by
  unfold Instr.changesLatches
  split <;> simp_all

theorem Instr.isUnpopulated_iff (i : Instr) :
    i.isUnpopulated = true ↔ ∃ b, (b, i) ∈ Instr.unpopulatedSlots := by
  simp [Instr.isUnpopulated]

end Sys2Proof

namespace Sys2Proof.Machine

/-! ### Updates of data -/

/-- An update of data alone: the engine's latches, mode and fault record, the scheduler and the switches stay, F keeps
its bits 3..0 (R40, R41), and the memory its canonical form. -/
structure Plain (s t : State) : Prop where
  engine : KeepsEngine s t
  lowF : t.get8 .f &&& 0x0F#8 = s.get8 .f &&& 0x0F#8
  memWf : s.bus.mem.wf = true → t.bus.mem.wf = true

/-- An update of data, with a debt within the longest instruction's (R545). -/
structure Ordinary (s t : State) : Prop extends Plain s t where
  debt : t.cyclesRemaining ≤ 6

theorem KeepsEngine.trans {s t u : State} (h1 : KeepsEngine s t) (h2 : KeepsEngine t u) : KeepsEngine s u :=
  ⟨h2.ime.trans h1.ime, h2.eiPending.trans h1.eiPending, h2.haltBug.trans h1.haltBug, h2.mode.trans h1.mode,
    h2.fault.trans h1.fault, h2.sched.trans h1.sched, h2.cfg.trans h1.cfg⟩

theorem Plain.refl (s : State) : Plain s s := ⟨KeepsEngine.refl s, rfl, id⟩

theorem Plain.trans {s t u : State} (h1 : Plain s t) (h2 : Plain t u) : Plain s u :=
  ⟨h1.engine.trans h2.engine, h2.lowF.trans h1.lowF, h2.memWf ∘ h1.memWf⟩

/-- Where the register file stays, only the memory's form is to be shown. -/
theorem Plain.of_regs {s t : State} (hk : KeepsEngine s t) (hr : t.regs = s.regs)
    (hm : s.bus.mem.wf = true → t.bus.mem.wf = true) : Plain s t :=
  ⟨hk, by rw [State.get8_congr s t hr], hm⟩

theorem cyclesAfter_le (mode : BusyAfter) (cost : Nat) (h : cost ≤ 24) : cyclesAfter mode cost ≤ 6 := by
  cases mode <;> simp only [cyclesAfter, Config.clockUnit] <;> omega

section

variable {s u : State} (h : Plain s u)
include h

theorem Plain.set8 {r : Reg8} (hr : r ≠ .f) (v : Byte) : Plain s (u.set8 r v) :=
  h.trans ⟨⟨by simp, by simp, by simp, by simp, by simp, by simp, by simp⟩, (State.set8_frame u r v hr).lowF, by simp⟩

theorem Plain.setFlags (w : FlagWrite) : Plain s (u.setFlags w) :=
  h.trans ⟨⟨rfl, rfl, rfl, rfl, rfl, rfl, rfl⟩, lowNibble_writeFlags u.regs.f w, id⟩

theorem Plain.setAFlags (o : AluOut) (n : Bool) : Plain s (u.setAFlags o n) :=
  (h.set8 (by decide) o.res).setFlags _

theorem Plain.alu (op : AluOp) (src : Byte) : Plain s (u.alu op src) := by
  cases op
  case cp => exact h.setFlags _
  all_goals exact h.setAFlags _ _

theorem Plain.incDecFlags (o : AluOut) (n : Bool) : Plain s (u.incDecFlags o n) := h.setFlags _

theorem Plain.spFlags (o : Alu16Out) : Plain s (u.spFlags o) := h.setFlags _

theorem Plain.shiftFlags (z cout : Bool) : Plain s (u.shiftFlags z cout) := h.setFlags _

theorem Plain.bitFlags (bit : Bool) : Plain s (u.bitFlags bit) := h.setFlags _

theorem Plain.splitInto {hi lo : Reg8} (h1 : hi ≠ .f) (h2 : lo ≠ .f) (v : Word) : Plain s (u.splitInto v hi lo) :=
  (h.set8 h1 _).set8 h2 _

theorem Plain.setHL (v : Word) : Plain s (u.setHL v) := h.splitInto (by decide) (by decide) v

theorem Plain.setSP (v : Word) : Plain s { u with sp := v } :=
  h.trans (Plain.of_regs ⟨rfl, rfl, rfl, rfl, rfl, rfl, rfl⟩ rfl id)

theorem Plain.setPC (target : Word) : Plain s (u.setPC target) :=
  h.trans (Plain.of_regs ⟨rfl, rfl, rfl, rfl, rfl, rfl, rfl⟩ rfl id)

theorem Plain.setRR (p : PairRR) (v : Word) : Plain s (u.setRR p v) := by
  cases p
  case sp => exact h.setSP v
  all_goals exact h.splitInto (by decide) (by decide) v

theorem Plain.setQQ {p : PairQQ} (hp : p ≠ .af) (v : Word) : Plain s (u.setQQ p v) := by
  cases p
  case af => exact absurd rfl hp
  all_goals exact h.splitInto (by decide) (by decide) v

theorem Plain.busRead (a : Word) : Plain s (u.busRead a).2 :=
  h.trans (Plain.of_regs ⟨rfl, rfl, rfl, rfl, rfl, rfl, rfl⟩ rfl (State.busRead_memWf u a))

theorem Plain.busWrite (a : Word) (v : Byte) : Plain s (u.busWrite a v) :=
  h.trans (Plain.of_regs ⟨rfl, rfl, rfl, rfl, rfl, rfl, rfl⟩ rfl (State.busWrite_memWf u a v))

theorem Plain.write16 (a v : Word) : Plain s (u.write16 a v) := (h.busWrite _ _).busWrite _ _

theorem Plain.push16 (v : Word) : Plain s (u.push16 v) :=
  h.trans (Plain.of_regs ⟨rfl, rfl, rfl, rfl, rfl, rfl, rfl⟩ rfl (State.push16_memWf u v))

theorem Plain.pop16 : Plain s u.pop16.2 :=
  h.trans (Plain.of_regs ⟨rfl, rfl, rfl, rfl, rfl, rfl, rfl⟩ rfl (State.pop16_memWf u))

theorem Plain.charge {cost : Nat} (hc : cost ≤ 24) : Ordinary s (u.charge cost) :=
  ⟨h.trans (Plain.of_regs ⟨rfl, rfl, rfl, rfl, rfl, rfl, rfl⟩ rfl id), cyclesAfter_le _ _ hc⟩

end

/-! ### The rows with a choice -/

theorem jumpIf_ordinary (cc : Cond) (target : Word) {taken notTaken : Nat} (s : State) (h1 : taken ≤ 24)
    (h2 : notTaken ≤ 24) : ∃ t, jumpIf cc target taken notTaken s = .next t ∧ Ordinary s t := by
  unfold jumpIf
  split
  · exact ⟨_, rfl, ((Plain.refl s).setPC target).charge h1⟩
  · exact ⟨_, rfl, (Plain.refl s).charge h2⟩

theorem callIf_ordinary (cc : Cond) (target : Word) (s : State) :
    ∃ t, callIf cc target s = .next t ∧ Ordinary s t := by
  unfold callIf
  split
  · exact ⟨_, rfl, (((Plain.refl s).push16 s.pc).setPC target).charge (by decide)⟩
  · exact ⟨_, rfl, (Plain.refl s).charge (by decide)⟩

theorem retIf_ordinary (cc : Cond) (s : State) : ∃ t, retIf cc s = .next t ∧ Ordinary s t := by
  unfold retIf
  split
  · exact ⟨_, rfl, ((Plain.refl s).pop16.setPC _).charge (by decide)⟩
  · exact ⟨_, rfl, (Plain.refl s).charge (by decide)⟩

/-- The register field names no F (R142). -/
theorem operandField_ne_f : ∀ z : BitVec 3, extendedEffect.operandField z ≠ some .f := by
  decide

theorem extendedEffect_ordinary (x : Byte) (s : State) : ∃ t, extendedEffect x s = .next t ∧ Ordinary s t := by
  have hf := operandField_ne_f (x.extractLsb' 0 3)
  have h := Plain.refl s
  have hm := h.busRead s.hl
  unfold extendedEffect
  generalize extendedEffect.operandField (x.extractLsb' 0 3) = operand at hf ⊢
  have hr : ∀ r, operand = some r → r ≠ .f := fun r h hrf => hf (by rw [h, hrf])
  dsimp only
  split
  · exact ⟨_, rfl, ((h.set8 (hr _ rfl) _).shiftFlags _ _).charge (by decide)⟩
  · exact ⟨_, rfl, ((hm.busWrite _ _).shiftFlags _ _).charge (by decide)⟩
  · exact ⟨_, rfl, (h.bitFlags _).charge (by decide)⟩
  · exact ⟨_, rfl, (hm.bitFlags _).charge (by decide)⟩
  · exact ⟨_, rfl, (h.set8 (hr _ rfl) _).charge (by decide)⟩
  · exact ⟨_, rfl, (hm.busWrite _ _).charge (by decide)⟩
  · exact ⟨_, rfl, (h.set8 (hr _ rfl) _).charge (by decide)⟩
  · exact ⟨_, rfl, (hm.busWrite _ _).charge (by decide)⟩

/-- The escape's row reads the selector byte, steps over it, and has the selected row's effect (R156). -/
theorem execPrefixCB_ordinary (s : State) : ∃ t, execPrefixCB s = .next t ∧ Ordinary s t := by
  obtain ⟨t, ht, ho⟩ := extendedEffect_ordinary (s.busRead s.pc).1 ((s.busRead s.pc).2.setPC (s.pc + 1))
  exact ⟨t, ht, (((Plain.refl s).busRead s.pc).setPC (s.pc + 1)).trans ho.toPlain, ho.debt⟩

/-! ### Every row -/

/-- Every row but DI, EI, RETI, HALT, STOP, POP AF and the unpopulated slots is an update of data: its next state is a
chain of register, flag, bus, SP and PC updates, charged. -/
theorem exec_ordinary (i : Instr) (s : State) (hl : i.changesLatches = false) (hp : i ≠ .pop_AF)
    (hu : i.isUnpopulated = false) : Completes i s (Ordinary s) := by
  have h := Plain.refl s
  cases i
  case di | ei | reti | halt | stop => exact Bool.noConfusion hl
  case pop_AF => exact absurd rfl hp
  case unpopulated_D3 | unpopulated_DB | unpopulated_DD | unpopulated_E3 | unpopulated_E4 | unpopulated_EB
    | unpopulated_EC | unpopulated_ED | unpopulated_F4 | unpopulated_FC | unpopulated_FD =>
    exact absurd hu (by decide)
  case prefixCB => exact execPrefixCB_ordinary s
  case jr_NZ_e | jr_Z_e | jr_NC_e | jr_C_e | jp_NZ_nn | jp_Z_nn | jp_NC_nn | jp_C_nn =>
    exact jumpIf_ordinary _ _ s (by decide) (by decide)
  case call_NZ_nn | call_Z_nn | call_NC_nn | call_C_nn => exact callIf_ordinary _ _ s
  case ret_NZ | ret_Z | ret_NC | ret_C => exact retIf_ordinary _ s
  case add_SP_e => exact ⟨_, rfl, ((h.setSP _).spFlags _).charge (by decide)⟩
  all_goals
    refine ⟨_, rfl, Plain.charge ?_ (by decide)⟩
    repeat with_reducible first
      | exact h
      | refine Plain.set8 ?_ (by decide) _
      | apply Plain.setFlags
      | apply Plain.alu
      | apply Plain.incDecFlags
      | apply Plain.spFlags
      | apply Plain.shiftFlags
      | apply Plain.bitFlags
      | apply Plain.setHL
      | apply Plain.setPC
      | apply Plain.setRR
      | refine Plain.setQQ ?_ (by decide) _
      | apply Plain.busRead
      | apply Plain.busWrite
      | apply Plain.write16
      | apply Plain.push16
      | apply Plain.pop16

end Sys2Proof.Machine
end

section
/-! The rows the ordinary ones leave out, what every row that is an instruction keeps, and the two whole-machine rules
of noninterference. -/

namespace Sys2Proof.Machine

/-- What is shown of the state a row answers holds of any state it answers. -/
theorem Completes.of_next {i : Instr} {s t : State} {P : State → Prop} (h : Completes i s P)
    (ht : exec i s = .next t) : P t := by
  obtain ⟨u, hu, hP⟩ := h
  cases hu.symm.trans ht
  exact hP

/-- What every row but an unpopulated slot keeps: the fault record, and a mode that is no fault; the halt bug is raised
only where the mode stays (R421); the memory's form, the bound of the debt (R545), and F's zero low nibble where direct
writes zero it (R40). -/
structure Regular (s t : State) : Prop where
  sched : t.sched = s.sched
  cfg : t.cfg = s.cfg
  fault : t.fault = s.fault
  noFault : s.mode.isFaulted = false → t.mode.isFaulted = false
  haltBug : t.haltBug = true → s.haltBug = true ∨ t.mode = s.mode
  memWf : s.bus.mem.wf = true → t.bus.mem.wf = true
  debt : t.cyclesRemaining ≤ 6
  zeroF : s.cfg.fLowMode = .zero → s.get8 .f &&& 0x0F#8 = 0x00#8 → t.get8 .f &&& 0x0F#8 = 0x00#8

theorem Ordinary.regular {s t : State} (h : Ordinary s t) : Regular s t where
  sched := h.engine.sched
  cfg := h.engine.cfg
  fault := h.engine.fault
  noFault hm := by rw [h.engine.mode, hm]
  haltBug _ := .inr h.engine.mode
  memWf := h.memWf
  debt := h.debt
  zeroF _ hz := h.lowF.trans hz

/-! ### The rows about the latches and the mode -/

/-- HALT's three cases (R421). -/
theorem execHalt_regular (s : State) : ∃ t, execHalt s = .next t ∧ t.regs = s.regs ∧ Regular s t := by
  have hwf := State.pending_memWf s
  have hd : ∀ u : State, (u.charge 4).cyclesRemaining ≤ 6 := fun _ => cyclesAfter_le _ _ (by decide)
  unfold execHalt
  dsimp only
  split
  · exact ⟨_, rfl, rfl, rfl, rfl, rfl, fun _ => rfl, .inl, hwf, hd _, fun _ => id⟩
  · split
    · exact ⟨_, rfl, rfl, rfl, rfl, rfl, id, .inl, hwf, hd _, fun _ => id⟩
    · exact ⟨_, rfl, rfl, rfl, rfl, rfl, id, fun _ => .inr rfl, hwf, hd _, fun _ => id⟩

/-- DI, EI, RETI, HALT and STOP leave the register file. -/
theorem exec_latches (i : Instr) (s : State) (h : i.changesLatches = true) :
    Completes i s fun t => t.regs = s.regs ∧ Regular s t := by
  have hd : ∀ u : State, (u.charge 4).cyclesRemaining ≤ 6 := fun _ => cyclesAfter_le _ _ (by decide)
  rcases i.changesLatches_iff.mp h with rfl | rfl | rfl | rfl | ⟨n, rfl⟩
  · exact ⟨_, rfl, rfl, rfl, rfl, rfl, id, .inl, id, hd _, fun _ => id⟩
  · exact ⟨_, rfl, rfl, rfl, rfl, rfl, id, .inl, id, hd _, fun _ => id⟩
  · exact ⟨_, rfl, rfl, rfl, rfl, rfl, id, .inl, State.pop16_memWf s, cyclesAfter_le _ _ (by decide), fun _ => id⟩
  · exact execHalt_regular s
  · exact ⟨_, rfl, rfl, rfl, rfl, rfl, fun _ => rfl, .inl, id, hd _, fun _ => id⟩

/-! ### POP AF -/

/-- A direct write of F clears its bits 3..0 under `ZERO` (R40). -/
theorem directF_zero_low : ∀ v : Byte, directF .zero v &&& 0x0F#8 = 0x00#8 := by
  decide

/-- POP AF leaves the engine; F's low nibble is the popped one, or 0 under `ZERO`. -/
theorem exec_popAF (s : State) : Completes .pop_AF s fun t => KeepsEngine s t ∧ Regular s t := by
  have hk : KeepsEngine s ((s.pop16.2.setQQ .af s.pop16.1).charge 12) :=
    ⟨by simp, by simp, by simp, by simp, by simp, by simp, by simp⟩
  have hf : ∀ v : Word, (s.pop16.2.setQQ .af v).get8 .f = directF s.cfg.fLowMode (loByte v) := fun _ => rfl
  exact ⟨_, rfl, hk,
    { sched := hk.sched
      cfg := hk.cfg
      fault := hk.fault
      noFault := fun hm => by rw [hk.mode, hm]
      haltBug := fun _ => .inr hk.mode
      memWf := State.pop16_memWf s
      debt := cyclesAfter_le _ _ (by decide)
      zeroF := fun hz _ => by rw [State.get8_charge, hf, hz, directF_zero_low] }⟩

/-! ### The unpopulated slots -/

/-- A slot raises InvalidOpcode with its one byte, and does nothing else (R451, R453). -/
theorem exec_unpopulated {b : Byte} {i : Instr} (s : State) (h : (b, i) ∈ Instr.unpopulatedSlots) :
    exec i s = .next (s.raise .invalidOpcode [b]) := by
  simp only [Instr.unpopulatedSlots, List.mem_cons, Prod.mk.injEq, List.not_mem_nil, or_false] at h
  rcases h with ⟨rfl, rfl⟩ | ⟨rfl, rfl⟩ | ⟨rfl, rfl⟩ | ⟨rfl, rfl⟩ | ⟨rfl, rfl⟩ | ⟨rfl, rfl⟩ | ⟨rfl, rfl⟩ | ⟨rfl, rfl⟩ |
    ⟨rfl, rfl⟩ | ⟨rfl, rfl⟩ | ⟨rfl, rfl⟩ <;> rfl

/-! ### Every row -/

/-- The four kinds of row. -/
theorem exec_kinds (i : Instr) :
    i.changesLatches = true ∨ i = .pop_AF ∨ (∃ b, (b, i) ∈ Instr.unpopulatedSlots) ∨
      ∀ s, Completes i s (Ordinary s) := by
  rw [← Instr.isUnpopulated_iff]
  by_cases hl : i.changesLatches = true
  · exact .inl hl
  by_cases hp : i = .pop_AF
  · exact .inr (.inl hp)
  by_cases hu : i.isUnpopulated = true
  · exact .inr (.inr (.inl hu))
  · exact .inr (.inr (.inr fun s =>
      exec_ordinary i s (Bool.eq_false_of_not_eq_true hl) hp (Bool.eq_false_of_not_eq_true hu)))

/-- Every instruction, and the escape's row. -/
theorem exec_regular (i : Instr) (s : State) (hu : i.isUnpopulated = false) : Completes i s (Regular s) := by
  rcases exec_kinds i with hl | rfl | hb | ho
  · obtain ⟨t, ht, -, hr⟩ := exec_latches i s hl
    exact ⟨t, ht, hr⟩
  · obtain ⟨t, ht, -, hr⟩ := exec_popAF s
    exact ⟨t, ht, hr⟩
  · exact absurd ((Instr.isUnpopulated_iff i).mpr hb) (by simp [hu])
  · obtain ⟨t, ht, ho⟩ := ho s
    exact ⟨t, ht, ho.regular⟩

/-- No row changes the scheduler. -/
theorem exec_sched {i : Instr} {s t : State} (h : exec i s = .next t) : t.sched = s.sched := by
  cases hu : i.isUnpopulated with
  | false => exact ((exec_regular i s hu).of_next h).sched
  | true =>
    obtain ⟨b, hb⟩ := (Instr.isUnpopulated_iff i).mp hu
    cases (exec_unpopulated s hb).symm.trans h
    rfl

/-- Settles O38: an ordinary row changes F by flag writes alone, a row about the latches and a slot not at all. -/
theorem onlyPopAFChangesLowNibbleOfF : Obligations.OnlyPopAFChangesLowNibbleOfF := by
  intro i s t hp h
  rcases exec_kinds i with hl | rfl | ⟨b, hb⟩ | ho
  · rw [State.get8_congr s t ((exec_latches i s hl).of_next h).1]
  · exact absurd rfl hp
  · cases (exec_unpopulated s hb).symm.trans h
    rfl
  · exact ((ho s).of_next h).lowF

/-- Settles O39: the rows the statement leaves are the ordinary ones and POP AF. -/
theorem onlySystemRowsChangeEngineState : Obligations.OnlySystemRowsChangeEngineState := by
  intro i s t h
  refine ⟨exec_sched h, fun hsys hstop hu => ?_⟩
  rcases exec_kinds i with hl | rfl | hb | ho
  · rcases i.changesLatches_iff.mp hl with rfl | rfl | rfl | rfl | ⟨n, rfl⟩
    case inr.inr.inr.inr => exact absurd rfl (hstop n)
    all_goals exact absurd (by simp) hsys
  · exact ((exec_popAF s).of_next h).1
  · exact absurd ((Instr.isUnpopulated_iff i).mpr hb) (by simp [hu])
  · exact ((ho s).of_next h).engine

end Sys2Proof.Machine
end

section
/-! The invariant: at a launch, through the engine's tick, and at the barrier. -/

namespace Sys2Proof.Machine

/-! ### The engine's part of the invariant -/

/-- The engine's own part of `State.Inv`: what holds inside a sub-cycle too, where accesses of other units are
outstanding and a fault has not been reported yet. -/
structure EngineInv (s : State) : Prop where
  memWf : s.bus.mem.wf = true
  noFaultMode : s.fault = none → s.mode.isFaulted = false
  faultMode : ∀ r, s.fault = some r → s.mode = .faulted .invalidOpcode ∧ r.kind = .invalidOpcode
  faultPlace : ∀ r, s.fault = some r → r.pc = s.pc ∧ r.bytes ∈ Instr.unpopulatedSlots.map fun slot => [slot.1]
  faultIdle : s.fault.isSome = true → s.cyclesRemaining = 0
  debt : s.cyclesRemaining ≤ 6
  haltBugRuns : s.haltBug = true → s.mode = .running ∨ s.fault.isSome = true
  lowF : s.cfg.fLowMode = .zero → s.get8 .f &&& 0x0F#8 = 0x00#8

theorem State.Inv.engine {s : State} (h : s.Inv) : EngineInv s :=
  ⟨h.memWf, h.noFaultMode, h.faultMode, h.faultPlace, h.faultIdle, h.debt, h.haltBugRuns, h.lowF⟩

/-- The bus traffic of other units and the scheduler's bookkeeping leave the engine's part. -/
theorem EngineInv.replace {s : State} (h : EngineInv s) (b : Bus) (c : Sched) (hb : b.mem.wf = true) :
    EngineInv { s with bus := b, sched := c } :=
  ⟨hb, h.noFaultMode, h.faultMode, h.faultPlace, h.faultIdle, h.debt, h.haltBugRuns, h.lowF⟩

/-- Without a fault there is no record to keep in step. -/
theorem EngineInv.of_noFault {s : State} (hf : s.fault = none) (hmode : s.mode.isFaulted = false)
    (hwf : s.bus.mem.wf = true) (hdebt : s.cyclesRemaining ≤ 6) (hbug : s.haltBug = true → s.mode = .running)
    (hlow : s.cfg.fLowMode = .zero → s.get8 .f &&& 0x0F#8 = 0x00#8) : EngineInv s where
  memWf := hwf
  noFaultMode _ := hmode
  faultMode r hr := by simp [hf] at hr
  faultPlace r hr := by simp [hf] at hr
  faultIdle hs := by simp [hf] at hs
  debt := hdebt
  haltBugRuns hb := .inl (hbug hb)
  lowF := hlow

/-- The mode is Faulted exactly where there is a record (R450). -/
theorem EngineInv.fault_isSome {s : State} (h : EngineInv s) : s.fault.isSome = s.mode.isFaulted := by
  cases hf : s.fault with
  | none => exact (h.noFaultMode hf).symm
  | some r => rw [(h.faultMode r hf).1]; rfl

theorem EngineInv.fault_none {s : State} (h : EngineInv s) (hm : s.mode.isFaulted = false) : s.fault = none := by
  rw [← Option.not_isSome_iff_eq_none, h.fault_isSome, hm]
  exact Bool.false_ne_true

/-! ### The tick -/

theorem EngineInv.raise {s : State} (h : EngineInv s) (hidle : s.cyclesRemaining = 0) {b : Byte} {i : Instr}
    (hb : (b, i) ∈ Instr.unpopulatedSlots) : EngineInv (s.raise .invalidOpcode [b]) where
  memWf := h.memWf
  noFaultMode hf := by simp at hf
  faultMode r hr := by cases hr; exact ⟨rfl, rfl⟩
  faultPlace r hr := by cases hr; exact ⟨rfl, List.mem_map.mpr ⟨(b, i), hb, rfl⟩⟩
  faultIdle _ := hidle
  debt := h.debt
  haltBugRuns _ := .inr rfl
  lowF := h.lowF

theorem EngineInv.lateEnable {s : State} (h : EngineInv s) (eiBefore : Bool) : EngineInv (s.lateEnable eiBefore) := by
  unfold State.lateEnable
  split
  · exact ⟨h.memWf, h.noFaultMode, h.faultMode, h.faultPlace, h.faultIdle, h.debt, h.haltBugRuns, h.lowF⟩
  · exact h

/-- An instruction's effect, on the state in which its fetch has consumed the halt bug (R166). -/
theorem EngineInv.of_regular {s t : State} (h : Regular s t) (hf : s.fault = none) (hrun : s.mode = .running)
    (hbug : s.haltBug = false) (hwf : s.bus.mem.wf = true)
    (hlow : s.cfg.fLowMode = .zero → s.get8 .f &&& 0x0F#8 = 0x00#8) : EngineInv t := by
  refine EngineInv.of_noFault (h.fault.trans hf) (h.noFault (by rw [hrun]; rfl)) (h.memWf hwf) h.debt (fun hb => ?_)
    fun hz => h.zeroF (h.cfg ▸ hz) (hlow (h.cfg ▸ hz))
  rcases h.haltBug hb with hs | hm
  · exact absurd (hs.symm.trans hbug) (by decide)
  · exact hm.trans hrun

theorem fetchExecute_keeps {s t : State} (h : EngineInv s) (hrun : s.mode = .running) (hidle : s.cyclesRemaining = 0)
    (ht : fetchExecute s = .next t) : EngineInv t ∧ t.sched = s.sched := by
  have hf : s.fault = none := h.fault_none (by rw [hrun]; rfl)
  obtain ⟨b, hb⟩ := fetch_bus_only s
  have hwf := fetch_memWf s h.memWf
  rcases fetch_cases s with ⟨i, n, s', hs, hi⟩ | ⟨v, i, s', hs, hv⟩
  all_goals
    unfold fetchExecute at ht
    rw [hs] at ht hb hwf
    dsimp only at ht hb hwf
    subst hb
  · have hu : i.isUnpopulated = false := by simp_all [Instr.wellFormed]
    obtain ⟨u, hu, hr⟩ := exec_regular i (({ s with bus := b } : State).advance n) hu
    rw [hu] at ht
    cases ht
    exact ⟨(EngineInv.of_regular hr hf hrun rfl hwf h.lowF).lateEnable _, by simp [hr.sched]⟩
  · cases (exec_unpopulated _ hv).symm.trans ht
    exact ⟨(h.replace b s.sched hwf).raise hidle hv, rfl⟩

/-- Interrupt dispatch consumes the halt bug (R472). -/
theorem EngineInv.dispatch {s : State} (h : EngineInv s) (hm : s.mode.isFaulted = false) (p : Byte) :
    EngineInv (s.dispatch p) :=
  EngineInv.of_noFault (h.fault_none hm) hm (State.dispatch_memWf s p h.memWf) (cyclesAfter_le _ _ (by decide))
    (fun hb => absurd hb (by simp)) h.lowF

theorem EngineInv.pending {s : State} (h : EngineInv s) : EngineInv s.pending.2 :=
  h.replace _ s.sched (State.pending_memWf s h.memWf)

theorem fetchingStep_keeps {s t : State} (h : EngineInv s) (hrun : s.mode = .running) (hidle : s.cyclesRemaining = 0)
    (ht : fetchingStep s = .next t) : EngineInv t ∧ t.sched = s.sched := by
  unfold fetchingStep at ht
  dsimp only at ht
  split at ht
  · split at ht
    · exact fetchExecute_keeps (s := s.pending.2) h.pending hrun hidle ht
    · cases ht
      exact ⟨h.pending.dispatch (by rw [State.pending_mode, hrun]; rfl) _, rfl⟩
  · exact fetchExecute_keeps h hrun hidle ht

theorem EngineInv.busyTick {s : State} (h : EngineInv s) : EngineInv (busyTick s) :=
  ⟨h.memWf, h.noFaultMode, h.faultMode, h.faultPlace, fun hs => by simp [Machine.busyTick, h.faultIdle hs],
    (Nat.sub_le _ _).trans h.debt, h.haltBugRuns, h.lowF⟩

theorem EngineInv.haltedTick {s : State} (h : EngineInv s) (hm : s.mode = .halted) : EngineInv (haltedTick s) := by
  have hf : s.fault = none := h.fault_none (by rw [hm]; rfl)
  unfold Machine.haltedTick
  dsimp only
  split
  · exact h.pending
  · exact EngineInv.of_noFault hf rfl h.pending.memWf h.debt (fun _ => rfl) h.lowF

theorem haltedTick_sched (s : State) : (haltedTick s).sched = s.sched := by
  unfold haltedTick
  dsimp only
  split <;> rfl

/-- The engine's tick keeps its part of the invariant and leaves the scheduler (R162). -/
theorem engineTick_keeps {s t : State} (h : EngineInv s) (ht : engineTick s = .next t) :
    EngineInv t ∧ t.sched = s.sched := by
  unfold engineTick at ht
  split at ht
  · cases ht
    exact ⟨h, rfl⟩
  · rename_i hnf
    split at ht
    · cases ht
      exact ⟨h.busyTick, rfl⟩
    · have hidle : s.cyclesRemaining = 0 := by omega
      cases hm : s.mode with
      | faulted k => exact absurd hm (hnf k)
      | stopped =>
        rw [hm] at ht
        cases ht
        exact ⟨h, rfl⟩
      | halted =>
        rw [hm] at ht
        cases ht
        exact ⟨h.haltedTick hm, haltedTick_sched s⟩
      | running =>
        rw [hm] at ht
        exact fetchingStep_keeps h hm hidle ht

/-! ### The barrier -/

/-- The exclusion and the reports are in step with a fault record (R488). -/
structure Sched.Reflects (c : Sched) (fault : Option FaultRecord) : Prop where
  excluded : c.excluded = if fault.isSome then [.engine] else []
  reported : c.reports = (fault.map fun r => { source := .engine, record := r }).toList

theorem Sched.Reflects.advance {c : Sched} {fault : Option FaultRecord} (h : c.Reflects fault) :
    c.advance.Reflects fault := by
  unfold Sched.advance
  split <;> exact ⟨h.excluded, h.reported⟩

/-- The first fault signal is reported and excludes the engine. -/
theorem Sched.Reflects.exclude {c : Sched} (h : c.Reflects none) (signal : Option FaultRecord) :
    (c.exclude .engine signal).Reflects signal := by
  cases signal with
  | none => exact h
  | some r => exact ⟨by simp [Sched.exclude, h.excluded], by simp [Sched.exclude, h.reported]⟩

/-- The barrier leaves no access outstanding, so that a scheduler in step with the record is all the invariant asks. -/
theorem State.barrier_inv {s : State} (h : EngineInv s) (after : List Access) (signal : Option FaultRecord)
    (hc : (s.sched.exclude .engine signal).Reflects s.fault) : (s.barrier after signal).Inv where
  memWf := State.barrier_memWf s after signal h.memWf
  quiet := State.barrier_gaps s after signal
  noFaultMode := h.noFaultMode
  faultMode := h.faultMode
  faultPlace := h.faultPlace
  faultIdle := h.faultIdle
  excluded := hc.advance.excluded
  reported := hc.advance.reported
  debt := h.debt
  haltBugRuns := h.haltBugRuns
  lowF := h.lowF

/-- A tick from a state without a fault signals the record it leaves (R450). -/
theorem faultSignal_eq {s t : State} (hs : EngineInv s) (ht : EngineInv t) (hf : s.fault = none) :
    faultSignal s t = t.fault := by
  unfold faultSignal
  rw [hs.noFaultMode hf, ← ht.fault_isSome]
  cases t.fault <;> rfl

/-- An excluded engine is not dispatched (R483, R488). -/
theorem State.Inv.fault_none_of_dispatches {s : State} (h : s.Inv) (hd : s.sched.dispatches .engine = true) :
    s.fault = none := by
  cases hf : s.fault with
  | none => rfl
  | some r => simp [Sched.dispatches, Sched.divisor?, h.excluded, hf] at hd

/-- Settles O59: the engine's tick keeps the engine's part, and the barrier restores the rest. -/
theorem stepKeepsInvariant : Obligations.StepKeepsInvariant := by
  intro s t h ht
  have hstart : EngineInv s.startSubcycle := h.engine.replace _ _ h.memWf
  have hc : s.startSubcycle.sched.Reflects s.fault := ⟨h.excluded, h.reported⟩
  unfold step subcycle at ht
  dsimp only at ht
  split at ht
  · rename_i hd
    have hf := h.fault_none_of_dispatches hd
    split at ht
    · rename_i u hu
      cases ht
      obtain ⟨hinv, hsched⟩ := engineTick_keeps hstart hu
      rw [faultSignal_eq hstart hinv hf]
      apply State.barrier_inv hinv
      rw [hsched]
      exact Sched.Reflects.exclude (hf ▸ hc) _
    · cases ht
    · cases ht
  · cases ht
    exact State.barrier_inv hstart _ none hc

/-! ### The launch -/

/-- A launch's state has no fault, no debt and no access outstanding, whatever the launch fixes. -/
theorem State.launch_inv (p : Launch) (h : p.wf = true) : (State.launch p).Inv where
  memWf := by
    simp only [Launch.wf, Bool.and_eq_true] at h
    exact Memory.writeRange_wf _ _ _ h.1
  quiet := rfl
  noFaultMode _ := rfl
  faultMode _ hr := by cases hr
  faultPlace _ hr := by cases hr
  faultIdle hs := Bool.noConfusion hs
  excluded := rfl
  reported := rfl
  debt := Nat.zero_le 6
  haltBugRuns hb := Bool.noConfusion hb
  lowF _ := show 0x00#8 &&& 0x0F#8 = 0x00#8 by decide

/-- The launch with nothing in memory, whose state is reset's. -/
def Launch.bare : Launch :=
  { initMem := { cells := [] }
    bootStart := 0x0000#16
    bootBytes := []
    placeholders := Placeholder.defaults
    orders := []
    cfg := Config.default }

/-- Settles O58: reset is the state of a launch. -/
theorem resetAndLaunchMeetInvariant : Obligations.ResetAndLaunchMeetInvariant :=
  ⟨State.launch_inv Launch.bare rfl, State.launch_inv⟩

/-- A bulk write leaves every address it does not reach. -/
theorem Memory.read_writeRange_other (m : Memory) (start a : Word) (bytes : List Byte) (h : m.wf = true)
    (ha : ∀ i < bytes.length, a ≠ start + BitVec.ofNat 16 i) : (m.writeRange start bytes).read a = m.read a := by
  induction bytes generalizing m start with
  | nil => rfl
  | cons v rest ih =>
    have h0 : a ≠ start := by simpa using ha 0 (by simp)
    rw [Memory.writeRange, ih _ _ (Memory.write_wf m start v h), Memory.read_write_other m start a v h h0]
    intro i hi
    have := ha (i + 1) (by simpa using hi)
    rwa [BitVec.ofNat_add, BitVec.add_comm (BitVec.ofNat 16 i), ← BitVec.add_assoc] at this

/-- Every byte of a bulk write no longer than the bus stands at its address modulo 2^16 (R113): no later byte reaches
the address of an earlier one. -/
theorem Memory.read_writeRange (m : Memory) (start : Word) (bytes : List Byte) (h : m.wf = true)
    (hlen : bytes.length ≤ Config.busSize) (i : Nat) (v : Byte) (hi : bytes[i]? = some v) :
    (m.writeRange start bytes).read (start + BitVec.ofNat 16 i) = v := by
  induction bytes generalizing m start i with
  | nil => simp at hi
  | cons w rest ih =>
    have hw := Memory.write_wf m start w h
    simp only [List.length_cons, Config.busSize] at hlen
    cases i with
    | zero =>
      obtain rfl : w = v := by simpa using hi
      rw [Memory.writeRange, BitVec.ofNat_eq_ofNat, BitVec.add_zero, Memory.read_writeRange_other _ _ _ _ hw,
        Memory.read_write_same m start w h]
      intro j hj
      bv_omega
    | succ j =>
      have hj : rest[j]? = some v := by simpa using hi
      have ha : start + BitVec.ofNat 16 (j + 1) = start + 1 + BitVec.ofNat 16 j := by
        rw [BitVec.ofNat_add, BitVec.add_comm (BitVec.ofNat 16 j), ← BitVec.add_assoc]
        rfl
      rw [ha]
      exact ih _ _ hw (by simp only [Config.busSize]; omega) j hj

/-- Settles O57: the registers are reset's, and the boot image is one bulk write over `INIT_MEM` (R113). -/
theorem launchStateIsResetState : Obligations.LaunchStateIsResetState := by
  intro p hp
  simp only [Launch.wf, Bool.and_eq_true, decide_eq_true_eq] at hp
  obtain ⟨hwf, hlen⟩ := hp
  refine ⟨fun r => by cases r <;> rfl, rfl, rfl, rfl, rfl, rfl, rfl, rfl, rfl, rfl, rfl, rfl, ?_, ?_⟩
  · exact fun i v hi => Memory.read_writeRange p.initMem p.bootStart p.bootBytes hwf hlen i v hi
  · exact fun a ha => Memory.read_writeRange_other p.initMem p.bootStart a p.bootBytes hwf ha

end Sys2Proof.Machine
end

section
/-! The register file's pair views, the bulk flag write and the Halted tick. -/

namespace Sys2Proof.Machine

/-- A register reads back what was written to it, F where direct writes store all its bits (R31, R40). -/
theorem State.get8_set8_stored (s : State) (r : Reg8) (v : Byte) (h : s.cfg.fLowMode = .asWritten ∨ r ≠ .f) :
    (s.set8 r v).get8 r = v := by
  rw [State.get8_set8_same]
  split
  · rw [h.resolve_right (by simpa using ‹r = .f›)]
    rfl
  · rfl

/-- Settles O1: the second write of `splitInto` does not touch the first one's register, so that each half is read back
(R31, R34). -/
theorem pairViewReadsBackWhatIsSplit : Obligations.PairViewReadsBackWhatIsSplit := by
  intro s v hi lo hne hF
  have hhi : (s.splitInto v hi lo).get8 hi = hiByte v := by
    rw [State.splitInto, State.get8_set8_other _ _ _ _ hne, State.get8_set8_stored _ _ _ (hF.imp_right And.left)]
  have hlo : (s.splitInto v hi lo).get8 lo = loByte v := by
    rw [State.splitInto, State.get8_set8_stored]
    simpa using hF.imp_right And.right
  refine ⟨?_, ?_, ?_, fun r h1 h2 => ?_⟩
  · rw [State.combine, hhi, hlo, wordOf_hiByte_loByte]
  · rw [hhi, toNat_hiByte]
  · rw [hlo, toNat_loByte]
  · rw [State.splitInto, State.get8_set8_other _ _ _ _ h2, State.get8_set8_other _ _ _ _ h1]

/-- Settles O2: each flag is its named value or its own, and no flag's bit is among F's bits 3..0. -/
theorem flagWriteChangesOnlyNamedFlags : Obligations.FlagWriteChangesOnlyNamedFlags := by
  intro s u
  have hflag := fun g => State.flag_setFlags_eq s u g
  exact ⟨hflag .z, hflag .n, hflag .h, hflag .c, lowNibble_writeFlags s.regs.f u⟩

/-- Settles O48: the tick's two bus reads change nothing, and what they find decides the mode alone. -/
theorem haltedTickWakesOnRequest : Obligations.HaltedTickWakesOnRequest := by
  intro s hready hmode hidle
  have htick : engineTick s = .next (haltedTick s) := by
    simp [engineTick, hmode, hidle]
  have hpending : s.pending = (Claims.requested s, s) := State.pending_ready s hready
  rw [htick, haltedTick, hpending]
  exact ⟨fun hnone => by simp [hnone], fun hsome => by simp [hsome]⟩

end Sys2Proof.Machine
end

section
/-! The memory family: a pop takes back what was pushed, the access of another unit between a read and its write is
lost, and no row stops the machine. -/

namespace Sys2Proof.Machine

/-! ### Registers written with their own values -/

theorem State.set8_get8 (s : State) (r : Reg8) (h : r = .f → s.cfg.fLowMode = .asWritten) :
    s.set8 r (s.get8 r) = s := by
  cases r
  case f => simp [State.set8, State.get8, directF, h]
  all_goals rfl

theorem State.splitInto_combine (s : State) (hi lo : Reg8) (hhi : hi = .f → s.cfg.fLowMode = .asWritten)
    (hlo : lo = .f → s.cfg.fLowMode = .asWritten) : s.splitInto (s.combine hi lo) hi lo = s := by
  rw [State.splitInto, State.combine, hiByte_wordOf, loByte_wordOf, s.set8_get8 hi hhi, s.set8_get8 lo hlo]

/-- A pair is read from the register file alone. -/
theorem State.getQQ_congr (s t : State) (h : t.regs = s.regs) (q : PairQQ) : t.getQQ q = s.getQQ q := by
  cases q <;> exact congrArg₂ wordOf (s.get8_congr t h _) (s.get8_congr t h _)

/-- A pair written with its own value; AF under `AS_WRITTEN`, as `ZERO` would clear F's bits 3..0 (R40). -/
theorem State.setQQ_getQQ (s : State) (q : PairQQ) (h : q = .af → s.cfg.fLowMode = .asWritten) :
    s.setQQ q (s.getQQ q) = s := by
  cases q
  case af => exact s.splitInto_combine .a .f nofun fun _ => h rfl
  all_goals exact s.splitInto_combine _ _ nofun nofun

/-! ### The stack round trip -/

/-- A pop takes back the word just pushed and leaves of the push only the two bytes in memory (R107, R108). -/
theorem State.pop16_push16 (s : State) (v : Word) (h : s.BusReady) :
    (s.push16 v).pop16 = (v, { s with bus := (s.push16 v).bus }) := by
  obtain ⟨hhigh, hlow⟩ := s.push16_bytes v h
  have hsp : (s.push16 v).sp = s.sp - 2 := by rw [s.push16_ready v h]
  have hup : s.sp - 2 + 1 = s.sp - 1 := by bv_omega
  have hback : s.sp - 2 + 2 = s.sp := by bv_omega
  rw [State.pop16_ready _ (s.push16_stays_ready v h), hsp, hup, hback, hhigh, hlow, wordOf_hiByte_loByte]
  rfl

/-- `PUSH qq` (R224). -/
theorem exec_pushQQ (q : PairQQ) (s : State) : exec (Instr.pushQQ q) s = pushPair q s := by
  cases q <;> rfl

/-- `POP qq` (R225). -/
theorem exec_popQQ (q : PairQQ) (s : State) : exec (Instr.popQQ q) s = popPair q s := by
  cases q <;> rfl

/-- A POP that finds the pair's own value on the stack leaves the register file (R225). -/
theorem popPair_own {t u : State} {q : PairQQ} {v : Word} (hpop : t.pop16 = (v, u)) (hv : u.getQQ q = v)
    (haf : q = .af → u.cfg.fLowMode = .asWritten) : popPair q t = .next (u.charge 12) := by
  subst hv
  simp only [popPair, hpop, u.setQQ_getQQ q haf]

/-- Settles O12: PUSH leaves the registers, and POP writes the pair with the value it still has. The two charges touch
neither. -/
theorem pushThenPopRestoresPair : Obligations.PushThenPopRestoresPair := by
  intro s q hready haf
  have hpop := (s.charge 16).pop16_push16 (s.getQQ q) ⟨hready.memWf, hready.quiet⟩
  have hexec := (exec_popQQ q _).trans (popPair_own hpop (s.getQQ_congr _ rfl q) haf)
  exact ⟨_, exec_pushQQ q s, _, hexec, s.getQQ_congr _ rfl q, rfl, rfl⟩

/-! ### Accesses of other units among the engine's -/

/-- The engine's access is preceded by those that fall before it (R115). -/
theorem Bus.arrive_cons (b : Bus) {before : List Access} {later : List (List Access)}
    (h : b.gaps = before :: later) : b.arrive = { mem := b.mem.applyAll before, gaps := later } := by
  unfold Bus.arrive
  rw [h]

/-- The engine's write is the last to its address, whatever other units wrote before it (R102, R115). -/
theorem Bus.read_write_same (b : Bus) (a : Word) (v : Byte) (h : b.mem.wf = true) : (b.write a v).mem.read a = v :=
  Memory.read_write_same _ _ _ (Bus.arrive_wf b h)

/-- INC (HL) and DEC (HL) with accesses of other units between the read and the write, and none before the read: the
byte is computed from the old one, whatever those accesses wrote (R115, R117). -/
theorem incDecMem_loses_writes_between (f : Byte → AluOut) (n : Bool) (s : State) (hwf : s.bus.mem.wf = true)
    {between : List (List Access)} (hgaps : s.bus.gaps = [] :: between) :
    ∃ t, incDecMem f n s = .next t ∧ t.bus.mem.read s.hl = (f (s.bus.mem.read s.hl)).res := by
  have hread : (s.busRead s.hl).1 = s.bus.mem.read s.hl := by
    rw [State.busRead_fst, s.bus.arrive_cons hgaps, Memory.applyAll_nil]
  refine ⟨_, rfl, ?_⟩
  rw [← hread]
  exact Bus.read_write_same _ _ _ (State.busRead_memWf s s.hl hwf)

/-- Settles O26: the write of the other unit falls between the accesses of the read-modify-write. -/
theorem readModifyWriteLosesConcurrentWrite : Obligations.ReadModifyWriteLosesConcurrentWrite := by
  intro s v hwf hgaps
  obtain ⟨t, ht, hbyte⟩ := incDecMem_loses_writes_between inc8 false s hwf hgaps
  exact ⟨t, ht, (congrArg BitVec.toNat hbyte).trans (inc8_res _)⟩

/-! ### Every row -/

/-- Settles O37: an unpopulated slot answers the fault's state, and every other row is `Regular`. -/
theorem everyInstructionCompletes : Obligations.EveryInstructionCompletes := by
  intro i s
  cases hu : i.isUnpopulated with
  | false =>
    obtain ⟨t, ht, hr⟩ := exec_regular i s hu
    exact ⟨t, ht, hr.cfg⟩
  | true =>
    obtain ⟨b, hb⟩ := (Instr.isUnpopulated_iff i).mp hu
    exact ⟨_, exec_unpopulated s hb, State.raise_cfg s _ _⟩

end Sys2Proof.Machine
end

section
/-! The decoder and the encoder: what the decoder answers, said once as a relation over the formats of R154, and the
statements that the encoder is its inverse. -/

namespace Sys2Proof

/-! ### What a slot reads -/

/-- What a slot's format reads from the bytes after the opcode (R154): the operand bytes, or with the escape the
selector byte, and the instruction they give. -/
inductive Slot.Reads : Slot → List Byte → Instr → Prop where
  | op (i : Instr) : Slot.Reads (.op i) [] i
  | n8 (f : Byte → Instr) (n : Byte) : Slot.Reads (.n8 f) [n] (f n)
  | e8 (f : Byte → Instr) (e : Byte) : Slot.Reads (.e8 f) [e] (f e)
  | n16 (f : Word → Instr) (nn : Word) : Slot.Reads (.n16 f) [loByte nn, hiByte nn] (f nn)
  | escape {b1 : Byte} {i : Instr} (hx : extSlot b1 = some i) : Slot.Reads .escape [b1] i
  | unpopulated (i : Instr) : Slot.Reads (.unpopulated i) [] i

/-- Any two bytes are a 16-bit operand, low byte first (R151). -/
theorem Slot.Reads.n16_bytes (f : Word → Instr) (lo hi : Byte) : Slot.Reads (.n16 f) [lo, hi] (f (wordOf hi lo)) := by
  simpa using Slot.Reads.n16 f (wordOf hi lo)

/-- The decoder looks up the slot of the first byte and answers what its format reads (R140, R161). -/
theorem decode_ok_iff {bytes rest : List Byte} {i : Instr} :
    decode bytes = .ok (i, rest) ↔
      ∃ b ops slot, bytes = b :: (ops ++ rest) ∧ baseSlot b = some slot ∧ slot.Reads ops i := by
  constructor
  · intro h
    cases bytes with
    | nil => cases h
    | cons b after =>
      refine ⟨b, ?_⟩
      unfold decode at h
      cases hb : baseSlot b with
      | none => simp [hb] at h
      | some slot =>
        simp only [hb] at h
        cases slot with
        | op j => cases h; exact ⟨[], _, rfl, rfl, .op i⟩
        | unpopulated j => cases h; exact ⟨[], _, rfl, rfl, .unpopulated i⟩
        | n8 f =>
          cases after with
          | nil => cases h
          | cons n after => cases h; exact ⟨[n], _, rfl, rfl, .n8 f n⟩
        | e8 f =>
          cases after with
          | nil => cases h
          | cons e after => cases h; exact ⟨[e], _, rfl, rfl, .e8 f e⟩
        | n16 f =>
          match after, h with
          | lo :: hi :: _, h => cases h; exact ⟨[lo, hi], _, rfl, rfl, .n16_bytes f lo hi⟩
        | escape =>
          cases after with
          | nil => cases h
          | cons b1 after =>
            cases hx : extSlot b1 with
            | none => simp [hx] at h
            | some j =>
              simp only [hx] at h
              cases h
              exact ⟨[b1], _, rfl, rfl, .escape hx⟩
  · rintro ⟨b, ops, slot, rfl, hb, hr⟩
    cases hr <;> simp_all [decode, decode.oneOperand]

/-- An opcode of format `op_n16` before its operand, low byte first (R151). -/
theorem decode_n16 {b : Byte} {f : Word → Instr} (hb : baseSlot b = some (.n16 f)) (nn : Word) (rest : List Byte) :
    decode (b :: loByte nn :: hiByte nn :: rest) = .ok (f nn, rest) :=
  decode_ok_iff.mpr ⟨b, [loByte nn, hiByte nn], _, rfl, hb, .n16 f nn⟩

/-- What decodes after the escape is the extended slot of the selector byte (R156). -/
theorem decode_escape_iff {b1 : Byte} {i : Instr} {after rest : List Byte} :
    decode (0xCB#8 :: b1 :: after) = .ok (i, rest) ↔ extSlot b1 = some i ∧ rest = after := by
  have hb : baseSlot 0xCB#8 = some .escape := rfl
  simp only [decode, hb]
  cases extSlot b1 <;> simp [eq_comm]

/-! ### The encoder against the tables -/

theorem Instr.wellFormed_iff (i : Instr) : i.wellFormed = true ↔ i.isEscape = false ∧ i.isUnpopulated = false := by
  simp [Instr.wellFormed]

/-- Every row but the escape's is read back from its bytes: the one of format `op_n16` from the two halves of its
operand, any other by looking its opcode up in the tables. -/
theorem decode_encode (i : Instr) (rest : List Byte) (h : i.isEscape = false) :
    decode (encode i ++ rest) = .ok (i, rest) := by
  cases i
  case prefixCB => exact Bool.noConfusion h
  case ld_BC_nn nn | ld_DE_nn nn | ld_HL_nn nn | ld_SP_nn nn | ld_atnn_SP nn | ld_atnn_A nn | ld_A_atnn nn | jp_nn nn
    | jp_NZ_nn nn | jp_Z_nn nn | jp_NC_nn nn | jp_C_nn nn | call_nn nn | call_NZ_nn nn | call_Z_nn nn | call_NC_nn nn
    | call_C_nn nn =>
    exact decode_n16 rfl nn rest
  all_goals rfl

/-- An extended instruction's bytes are the escape and its selector byte (R156, R159). -/
theorem encode_extSlot (b1 : Byte) : ∀ i, extSlot b1 = some i → encode i = [0xCB#8, b1] := by
  revert b1
  apply forall_byte
  intro n hn
  interval_cases n
  all_goals
    rintro _ ⟨⟩
    rfl

/-- What a slot reads is encoded as the slot's opcode and the bytes read. -/
theorem encode_of_reads (b : Byte) :
    ∀ slot ops i, baseSlot b = some slot → slot.Reads ops i → encode i = b :: ops := by
  revert b
  apply forall_byte
  intro n hn
  interval_cases n
  all_goals rintro _ _ _ ⟨⟩ ⟨⟩
  any_goals rfl
  next hx => exact encode_extSlot _ _ hx

/-- Settles O42: the escape's row is the only one that its bytes do not give back. -/
theorem decodeOfEncodeIsTheInstruction : Obligations.DecodeOfEncodeIsTheInstruction :=
  fun i rest h => decode_encode i rest (i.wellFormed_iff.mp h).1

/-- Settles O43: what decodes is what the first byte's slot reads, and the encoder writes that slot's bytes. -/
theorem encodeOfDecodeIsTheBytes : Obligations.EncodeOfDecodeIsTheBytes := by
  intro bytes rest i h
  obtain ⟨b, ops, slot, rfl, hb, hr⟩ := decode_ok_iff.mp h
  rw [encode_of_reads b slot ops i hb hr]
  rfl

/-- Settles O45: each opcode looked up in the tables. -/
theorem sampleWordsDecode : Obligations.SampleWordsDecode := by
  intro n lo hi rest
  exact ⟨rfl, rfl, rfl, rfl, rfl, rfl, rfl, rfl, rfl, rfl, rfl, rfl, rfl, rfl, rfl⟩

/-! ### Totality -/

/-- The bytes of R158. -/
theorem unpopulatedSlots_bytes :
    Instr.unpopulatedSlots.map (fun slot => slot.1.toNat) =
      [0xD3, 0xDB, 0xDD, 0xE3, 0xE4, 0xEB, 0xEC, 0xED, 0xF4, 0xFC, 0xFD] := rfl

/-- What the base table holds at the bytes of R158. -/
theorem baseSlot_unpopulated {b : Byte} {i : Instr} (h : (b, i) ∈ Instr.unpopulatedSlots) :
    baseSlot b = some (.unpopulated i) := by
  have hall : ∀ slot ∈ Instr.unpopulatedSlots, baseSlot slot.1 = some (.unpopulated slot.2) := by
    simp only [Instr.unpopulatedSlots, List.forall_mem_cons]
    exact ⟨rfl, rfl, rfl, rfl, rfl, rfl, rfl, rfl, rfl, rfl, rfl, nofun⟩
  exact hall (b, i) h

section

variable {b : Byte} {slot : Slot} {ops : List Byte} {i : Instr}

/-- The opcode and what its slot reads are as many bytes as the opcode declares (R140, R154). -/
theorem Slot.Reads.length (hr : slot.Reads ops i) (hb : baseSlot b = some slot) :
    declaredLength b = 1 + ops.length := by
  have hl := declaredLength_eq b
  rw [hb] at hl
  cases hr <;> exact hl

/-- What a slot reads is an instruction, but at the bytes of R158. -/
theorem Slot.Reads.wellFormed_iff (hr : slot.Reads ops i) (hb : baseSlot b = some slot) :
    i.wellFormed = false ↔ ∃ j, (b, j) ∈ Instr.unpopulatedSlots := by
  have hs := slot_wellFormed b
  rw [hb] at hs
  have populated (hslot : ∀ j, slot ≠ .unpopulated j) (hi : i.wellFormed = true) :
      i.wellFormed = false ↔ ∃ j, (b, j) ∈ Instr.unpopulatedSlots := by
    refine iff_of_false (by simp [hi]) ?_
    rintro ⟨j, hj⟩
    exact hslot j (Option.some.inj (hb.symm.trans (baseSlot_unpopulated hj)))
  cases hr with
  | op => exact populated nofun hs
  | n8 f n => exact populated nofun (hs n)
  | e8 f e => exact populated nofun (hs e)
  | n16 f nn => exact populated nofun (hs nn)
  | @escape b1 _ hx => exact populated nofun (by simpa [hx] using (extSlot_isSome b1).2)
  | unpopulated => exact iff_of_true hs.1 ⟨i, hs.2⟩

end

/-- Two bytes after the opcode are enough for every format (R154). -/
theorem exists_reads (b0 b1 b2 : Byte) :
    ∃ ops rest slot i, [b1, b2] = ops ++ rest ∧ baseSlot b0 = some slot ∧ slot.Reads ops i := by
  obtain ⟨slot, hb⟩ := Option.isSome_iff_exists.mp (baseSlot_isSome b0)
  cases slot with
  | op i => exact ⟨[], _, _, _, rfl, hb, .op i⟩
  | n8 f => exact ⟨[b1], _, _, _, rfl, hb, .n8 f b1⟩
  | e8 f => exact ⟨[b1], _, _, _, rfl, hb, .e8 f b1⟩
  | n16 f => exact ⟨[b1, b2], [], _, _, rfl, hb, .n16_bytes f b1 b2⟩
  | escape =>
    obtain ⟨i, hx⟩ := Option.isSome_iff_exists.mp (extSlot_isSome b1).1
    exact ⟨[b1], _, _, _, rfl, hb, .escape hx⟩
  | unpopulated i => exact ⟨[], _, _, _, rfl, hb, .unpopulated i⟩

/-- Settles O44: some slot reads from the three bytes; which rows are no instruction, and the length, are facts about
what a slot reads. -/
theorem decodingIsTotal : Obligations.DecodingIsTotal := by
  intro b0 b1 b2
  obtain ⟨ops, rest, slot, i, hops, hb, hr⟩ := exists_reads b0 b1 b2
  have hd : decode [b0, b1, b2] = .ok (i, rest) := decode_ok_iff.mpr ⟨b0, ops, slot, by rw [hops], hb, hr⟩
  refine ⟨i, rest, hd, ?_, ?_, ?_⟩
  · rw [hr.wellFormed_iff hb, ← unpopulatedSlots_bytes, List.mem_map]
    constructor
    · rintro ⟨j, hj⟩
      exact ⟨(b0, j), hj, rfl⟩
    · rintro ⟨⟨b, j⟩, hj, hbyte⟩
      exact ⟨j, BitVec.eq_of_toNat_eq hbyte ▸ hj⟩
  · have hlen := congrArg List.length hops
    rw [hr.length hb]
    simp only [List.length_cons, List.length_nil, List.length_append] at hlen
    omega
  · rintro rfl
    exact (decode_escape_iff.mp hd).1

end Sys2Proof
end

section
/-! The rows the decoder singles out: the unpopulated slots, and the extended instructions behind the escape. -/

namespace Sys2Proof.Machine

/-- Settles O36: the table holds each slot's row at its byte, and the row raises the fault (R451, R453). -/
theorem unpopulatedSlotsRaiseInvalidOpcode : Obligations.UnpopulatedSlotsRaiseInvalidOpcode :=
  ⟨unpopulatedSlots_bytes, fun s _ _ h => ⟨baseSlot_unpopulated h, _, exec_unpopulated s h, rfl, rfl, rfl⟩⟩

/-- Each row of the extended table has the effect that the fields of its selector byte name (R147, R148, R159). -/
theorem exec_extSlot (b1 : Byte) : ∀ i, extSlot b1 = some i → exec i = extendedEffect b1 := by
  revert b1
  apply forall_byte
  intro n hn
  interval_cases n
  all_goals
    rintro _ ⟨⟩
    rfl

/-- Settles O35: the escape's row has the effect of the byte it reads, which is that of the extended slot's row. -/
theorem escapeConsultsExtendedTable : Obligations.EscapeConsultsExtendedTable := by
  intro s hready
  obtain ⟨hsome, hwf⟩ := extSlot_isSome (s.bus.mem.read s.pc)
  obtain ⟨i, hx⟩ := Option.isSome_iff_exists.mp hsome
  rw [hx] at hwf
  have hescape : exec .prefixCB s = extendedEffect (s.bus.mem.read s.pc) { s with pc := s.pc + 1 } := by
    change execPrefixCB s = _
    rw [execPrefixCB, s.busRead_ready _ hready]
  obtain ⟨t, ht, -⟩ := execPrefixCB_ordinary s
  exact ⟨i, hx, hwf, by rw [hescape, exec_extSlot _ i hx], t, ht⟩

end Sys2Proof.Machine
end

section
/-! The cost map of R545 against the rows. -/

open Sys2Proof.Claims

namespace Sys2Proof.Machine

/-! ### The base opcodes -/

/-- The condition a row tests is the one of its field `cc` (R42, R145). -/
theorem State.cond_iff_holds (s : State) (cc : Cond) : s.cond cc = true ↔ holds s cc := by
  rw [State.cond_eq]
  cases cc <;> simp [holds]

/-- The cost map's number for a base opcode, the first where it has two. -/
def baseCost (b : Nat) : Nat := (baseCosts.getD (b / 16) []).getD (b % 16) 0

/-- A row costs what the cost map has for the opcode `b`: the conclusion of `Obligations.BaseOpcodeCosts`. -/
def CostsAsMapped (b : Nat) (i : Instr) : Prop :=
  ∀ s t, exec i s = .next t →
    (∀ c cc, (b, c, cc) ∈ notTakenCosts → ¬ holds s cc → Costs c s t) ∧
    ((∀ c cc, (b, c, cc) ∈ notTakenCosts → holds s cc) → Costs (baseCost b) s t)

/-- A row with one charge, at an opcode without a second number. -/
theorem CostsAsMapped.of_charge {b : Nat} {i : Instr} {cost : Nat}
    (h : ∀ s, ∃ u : State, exec i s = .next (u.charge cost) ∧ u.cfg = s.cfg) (hc : 4 ≤ cost) (hb : baseCost b = cost)
    (hmap : b ∉ notTakenCosts.map Prod.fst) : CostsAsMapped b i := by
  intro s t ht
  obtain ⟨u, hu, hcfg⟩ := h s
  cases hu.symm.trans ht
  exact ⟨fun c cc hm => absurd (List.mem_map_of_mem hm) hmap, fun _ => hb ▸ costs_charge s u cost hc hcfg⟩

/-- A row with a charge for its condition met and one for not met, at an opcode with these two numbers. -/
theorem CostsAsMapped.of_cond {b : Nat} {i : Instr} {cc : Cond} {taken notTaken : Nat}
    (h : ∀ s, ∃ u v : State, exec i s = (if s.cond cc then .next (u.charge taken) else .next (v.charge notTaken)) ∧
      u.cfg = s.cfg ∧ v.cfg = s.cfg)
    (h1 : 4 ≤ taken) (h2 : 4 ≤ notTaken) (hb : baseCost b = taken)
    (hmap : notTakenCosts.filter (fun entry => entry.1 = b) = [(b, notTaken, cc)]) : CostsAsMapped b i := by
  intro s t ht
  obtain ⟨u, v, hu, hcu, hcv⟩ := h s
  have hentry (c : Nat) (cc' : Cond) : (b, c, cc') ∈ notTakenCosts ↔ c = notTaken ∧ cc' = cc := by
    have hmem := List.mem_filter (p := fun entry => decide (entry.1 = b)) (x := (b, c, cc')) (as := notTakenCosts)
    rw [hmap] at hmem
    simpa using hmem.symm
  rw [hu] at ht
  simp only [hentry, ← State.cond_iff_holds]
  split at ht
  · rename_i hmet
    cases ht
    refine ⟨?_, fun _ => hb ▸ costs_charge s u taken h1 hcu⟩
    rintro _ _ ⟨-, rfl⟩ hnot
    exact absurd hmet hnot
  · rename_i hnot
    cases ht
    refine ⟨?_, fun hall => absurd (hall _ _ ⟨rfl, rfl⟩) hnot⟩
    rintro _ _ ⟨rfl, -⟩ _
    exact costs_charge s v _ h2 hcv

/-- HALT's three cases have one cost (R421). -/
theorem exec_halt_charge (s : State) : ∃ u : State, exec .halt s = .next (u.charge 4) ∧ u.cfg = s.cfg := by
  change ∃ u : State, execHalt s = .next (u.charge 4) ∧ u.cfg = s.cfg
  unfold execHalt
  dsimp only
  split
  · exact ⟨_, rfl, rfl⟩
  · split <;> exact ⟨_, rfl, rfl⟩

/-- Every base instruction, by its opcode: sixteen rows choose between two charges by their condition, HALT's cases
share one, and every other row is one update with its charge. -/
theorem exec_costsAsMapped {i : Instr} {b : Byte} {ops : List Byte} (h : encode i = b :: ops)
    (hw : i.wellFormed = true) (hx : b ≠ 0xCB#8) : CostsAsMapped b.toNat i := by
  cases i
  all_goals cases h
  -- the 256 extended rows and the escape's
  any_goals exact absurd rfl hx
  case unpopulated_D3 | unpopulated_DB | unpopulated_DD | unpopulated_E3 | unpopulated_E4 | unpopulated_EB
    | unpopulated_EC | unpopulated_ED | unpopulated_F4 | unpopulated_FC | unpopulated_FD =>
    exact absurd hw (by decide)
  case halt => exact .of_charge exec_halt_charge (by decide) rfl (by decide)
  case jr_NZ_e | jr_Z_e | jr_NC_e | jr_C_e | jp_NZ_nn | jp_Z_nn | jp_NC_nn | jp_C_nn | call_NZ_nn | call_Z_nn
    | call_NC_nn | call_C_nn | ret_NZ | ret_Z | ret_NC | ret_C =>
    exact .of_cond (fun s => ⟨_, _, rfl, rfl, rfl⟩) (by decide) (by decide) rfl rfl
  all_goals exact .of_charge (fun s => ⟨_, rfl, by simp⟩) (by decide) rfl (by decide)

/-- Settles O40: the opcode of what decodes is the first byte of its encoding. -/
theorem baseOpcodeCosts : Obligations.BaseOpcodeCosts := by
  intro s t b0 b1 b2 i rest hd hw hx ht
  obtain ⟨b, ops, slot, hbytes, hb, hr⟩ := decode_ok_iff.mp hd
  obtain ⟨rfl, -⟩ := List.cons.inj hbytes
  exact exec_costsAsMapped (encode_of_reads b0 slot ops i hb hr) hw hx s t ht

/-! ### The extended opcodes -/

/-- The register field's code 6 is `(HL)` (R142). -/
theorem operandField_eq_none_iff (z : BitVec 3) : extendedEffect.operandField z = none ↔ z.toNat = 6 := by
  revert z
  decide

/-- The cost map's number for an extended opcode. -/
def extendedCost (b1 : Byte) : Nat := if b1.toNat % 8 ≠ 6 then 8 else if b1.toNat / 64 = 1 then 12 else 16

/-- The cost by the selector byte's fields: `z` names the operand, and group 1 only tests (R142, R148). -/
theorem extendedCost_eq (b1 : Byte) :
    extendedCost b1 =
      if extendedEffect.operandField (b1.extractLsb' 0 3) ≠ none then 8
      else if b1.extractLsb' 6 2 = 1#2 then 12 else 16 := by
  have hz : (b1.extractLsb' 0 3).toNat = b1.toNat % 8 := by simp [BitVec.extractLsb'_toNat]
  have hgroup : (b1.extractLsb' 6 2).toNat = b1.toNat / 64 := by
    have hlt := b1.isLt
    rw [BitVec.extractLsb'_toNat, Nat.shiftRight_eq_div_pow]
    omega
  have htest : b1.extractLsb' 6 2 = 1#2 ↔ b1.toNat / 64 = 1 := by
    rw [← hgroup, ← BitVec.toNat_inj]
    rfl
  simp only [extendedCost, ne_eq, operandField_eq_none_iff, hz, htest]

/-- Each group on a register and on the byte at HL is one update with its charge. -/
theorem extendedEffect_charge (b1 : Byte) (s : State) :
    ∃ u : State, extendedEffect b1 s = .next (u.charge (extendedCost b1)) ∧ u.cfg = s.cfg := by
  rw [extendedCost_eq]
  unfold extendedEffect
  generalize extendedEffect.operandField (b1.extractLsb' 0 3) = operand
  generalize b1.extractLsb' 6 2 = group
  dsimp only
  split
  case h_8 htest _ => exact ⟨_, by rw [if_neg (by simp), if_neg htest]; rfl, by simp⟩
  all_goals exact ⟨_, rfl, by simp⟩

/-- Settles O41: what decodes after the escape has the effect, and the charge, of its selector byte. -/
theorem extendedOpcodeCosts : Obligations.ExtendedOpcodeCosts := by
  intro s t b1 i rest hd ht
  obtain ⟨u, hu, hcfg⟩ := extendedEffect_charge b1 s
  rw [exec_extSlot b1 i (decode_escape_iff.mp hd).1, hu] at ht
  cases ht
  have hcost : 4 ≤ extendedCost b1 := by
    unfold extendedCost
    split_ifs <;> decide
  exact costs_charge s u _ hcost hcfg

end Sys2Proof.Machine
end

section
/-! The engine's tick: a Busy tick, a Faulted one, and the tick that runs the instruction decoded from the stream. -/

open Sys2Proof.Claims

namespace Sys2Proof.Machine

/-! ### Ticks that fetch nothing -/

theorem engineTick_busy {s : State} (hm : s.mode.isFaulted = false) (hdue : 0 < s.cyclesRemaining) :
    engineTick s = .next (busyTick s) := by
  unfold engineTick
  split
  · rename_i hk
    simp [hk, Mode.isFaulted] at hm
  · exact if_pos hdue

theorem engineTick_faulted {s : State} (hm : s.mode.isFaulted = true) : engineTick s = .next s := by
  unfold engineTick
  split
  · rfl
  · rename_i hk
    cases hs : s.mode with
    | faulted k => exact absurd hs (hk k)
    | running | halted | stopped => simp [hs, Mode.isFaulted] at hm

/-- Settles O47: the mode is tested before the debt (R162). -/
theorem busyTickOnlyDecrements : Obligations.BusyTickOnlyDecrements :=
  fun _ => ⟨engineTick_busy, engineTick_faulted⟩

/-! ### The tick that runs an instruction -/

/-- The stream's addresses with and without the halt bug (R165, R167). -/
theorem State.streamList_eq (s : State) : s.streamList = streamBytes s := by
  unfold State.streamList streamBytes State.streamAddr
  cases s.haltBug
  · simp [bitWord]
  · have hback : s.pc + 2#16 - 1#16 = s.pc + 1#16 := by bv_omega
    simp [bitWord, hback]

/-- Without an interrupt to take, the check of R164 changes nothing. -/
theorem fetchingStep_ready {s : State} (hready : s.BusReady) (hf : Fetching s) :
    fetchingStep s = fetchExecute s := by
  have hp : s.pending = (requested s, s) := State.pending_ready s hready
  unfold fetchingStep
  rw [hp]
  rcases hf.noInterrupt with h | h | h <;> simp [h]

/-- The tick is the decoded instruction's effect at the advanced PC, then the delayed enable, and no fault. -/
theorem engineTick_fetching {s : State} {i : Instr} {rest : List Byte} (hready : s.BusReady) (hf : Fetching s)
    (hd : decode (streamBytes s) = .ok (i, rest)) (hw : i.wellFormed = true) :
    ∃ t, exec i (s.advance (3 - rest.length)) = .next t ∧ engineTick s = .next (t.lateEnable s.eiPending) ∧
      t.mode.isFaulted = false := by
  obtain ⟨t, ht, hr⟩ := exec_regular i (s.advance (3 - rest.length)) (i.wellFormed_iff.mp hw).2
  have htick : engineTick s = fetchExecute s := by
    simp [engineTick, hf.running, hf.due, fetchingStep_ready hready hf]
  refine ⟨t, ht, ?_, hr.noFault (by simp [hf.running, Mode.isFaulted])⟩
  rw [htick, fetchExecute, fetch_ready_run s hready i rest (by rw [s.streamList_eq, hd]) hw]
  simp only [ht, afterEffect]

/-- Settles O46: with the placeholders idle the sub-cycle's start touches the scheduler alone, so that the tick is that
of the state before it; the barrier finds nothing to do and no fault to report. -/
theorem stepRunsTheDecodedInstruction : Obligations.StepRunsTheDecodedInstruction := by
  intro s i rest hready hidle hf hdisp hd hw
  have hstart := s.startSubcycle_idle hready.quiet hidle
  generalize s.startSubcycle.sched = c at hstart
  have hready' : s.startSubcycle.BusReady := hstart ▸ ⟨hready.memWf, hready.quiet⟩
  have hf' : Fetching s.startSubcycle := hstart ▸ ⟨hf.running, hf.due, hf.noInterrupt⟩
  have hd' : decode (streamBytes s.startSubcycle) = .ok (i, rest) := hstart ▸ hd
  obtain ⟨t, ht, htick, hm⟩ := engineTick_fetching hready' hf' hd' hw
  change engineTick s.startSubcycle = .next (t.lateEnable s.eiPending) at htick
  have hsignal : faultSignal s.startSubcycle (t.lateEnable s.eiPending) = none := by simp [faultSignal, hm]
  refine ⟨t, ht, ?_, ?_, ?_⟩
  · simp only [step, subcycle, hdisp, if_true, htick, Sched.woven_idle _ hidle]
    rw [hsignal]
  · rw [hstart]
    cases s.haltBug <;> simp [bitWord]
  · rw [hstart]
    rfl

/-- Settles O50: the tick ends in the delayed enable, which acts only on an enable still pending (R170). -/
theorem enableTakesEffectOneInstructionLater : Obligations.EnableTakesEffectOneInstructionLater := by
  intro s i rest hready hf hei hd hw
  obtain ⟨t, ht, htick, -⟩ := engineTick_fetching hready hf hd hw
  rw [hei] at htick
  refine ⟨t, ht, fun h => ?_, fun h => ?_, ?_⟩
  · simp [htick, State.lateEnable, h]
  · simp [htick, State.lateEnable, h]
  · rintro rfl
    cases ht
    exact ⟨_, htick, rfl, rfl⟩

/-! ### No malformed operand fetch -/

theorem Mode.ne_faulted {m : Mode} (h : m.isFaulted = false) (k : Fault) : m ≠ .faulted k := by
  rintro rfl
  exact Bool.noConfusion h

theorem fetch_mode (s : State) : (fetch s).2.mode = s.mode := by
  obtain ⟨b, hb⟩ := fetch_bus_only s
  rw [hb]

/-- What a fetch finds is an instruction, whose effect enters no fault, or an unpopulated slot, whose fault is the other
kind (R451, R452). -/
theorem fetchExecute_mode_ne {s t : State} (hrun : s.mode = .running) (ht : fetchExecute s = .next t) :
    t.mode ≠ .faulted .malformedOperandFetch := by
  have hmode := fetch_mode s
  unfold fetchExecute at ht
  rcases fetch_cases s with ⟨i, n, s', hs, hi⟩ | ⟨b, i, s', hs, hb⟩
  · obtain ⟨u, hu, hr⟩ := exec_regular i (s'.advance n) (i.wellFormed_iff.mp hi).2
    simp only [hs, hu, afterEffect] at ht hmode
    cases ht
    rw [State.lateEnable_mode]
    exact Mode.ne_faulted (hr.noFault (by rw [State.advance_mode, hmode, hrun]; rfl)) _
  · simp only [hs, exec_unpopulated s' hb] at ht
    cases ht
    rw [State.raise_mode]
    nofun

theorem fetchingStep_mode_ne {s t : State} (hrun : s.mode = .running) (ht : fetchingStep s = .next t) :
    t.mode ≠ .faulted .malformedOperandFetch := by
  unfold fetchingStep at ht
  dsimp only at ht
  split at ht
  · split at ht
    · exact fetchExecute_mode_ne (s := s.pending.2) hrun ht
    · cases ht
      rw [State.dispatch_mode, State.pending_mode, hrun]
      nofun
  · exact fetchExecute_mode_ne hrun ht

theorem haltedTick_mode (s : State) : (haltedTick s).mode = s.mode ∨ (haltedTick s).mode = .running := by
  unfold haltedTick
  dsimp only
  split
  · exact .inl rfl
  · exact .inr rfl

/-- A tick leaves Faulted(MalformedOperandFetch) only where it stood before. -/
theorem engineTick_mode_of_malformed {s t : State} (ht : engineTick s = .next t)
    (hm : t.mode = .faulted .malformedOperandFetch) : s.mode = t.mode := by
  unfold engineTick at ht
  split at ht
  · cases ht
    rfl
  · rename_i hk
    split at ht
    · cases ht
      rfl
    · cases hs : s.mode with
      | faulted k => exact absurd hs (hk k)
      | stopped =>
        rw [hs] at ht
        cases ht
        exact hs.symm
      | halted =>
        rw [hs] at ht
        cases ht
        rcases haltedTick_mode s with h | h
        · rw [h, hs]
        · simp [h] at hm
      | running =>
        rw [hs] at ht
        exact absurd hm (fetchingStep_mode_ne hs ht)

/-- Settles O53: the start of a sub-cycle and its barrier leave the mode. -/
theorem malformedOperandFetchNeverFires : Obligations.MalformedOperandFetchNeverFires := by
  intro s t ht hm
  unfold step subcycle at ht
  dsimp only at ht
  split at ht
  · split at ht
    · rename_i u hu
      cases ht
      have hmode : s.startSubcycle.mode = u.mode := engineTick_mode_of_malformed hu hm
      exact hmode
    · cases ht
    · cases ht
  · cases ht
    rfl

end Sys2Proof.Machine
end

section
/-! The loads, stores and stack transfers: each row has its rule's encoding and is one of the shapes of instruction,
whose specification then says what the row does. -/

open Sys2Proof.Claims

namespace Sys2Proof

/-- No register field stands for F (R142). -/
theorem OpReg.reg_ne_f (r : OpReg) : r.reg ≠ .f := by
  cases r <;> decide

end Sys2Proof

namespace Sys2Proof.Machine

/-- A row completes as the shape of instruction it is. -/
theorem Completes.of_shape {i : Instr} {s : State} {r : Result} {P : State → Prop} (h : exec i s = r)
    (hr : ∃ t, r = .next t ∧ P t) : Completes i s P := by
  obtain ⟨t, ht, hP⟩ := hr
  exact ⟨t, h.trans ht, hP⟩

/-! ### Loads of a register, stores at HL -/

theorem encodedAs_ldRR (dst src : OpReg) :
    EncodedAs [byte (0b01000000 + 8 * regCode dst + regCode src)] (Instr.ldRR dst src) := by
  cases dst <;> cases src <;> exact fun _ => rfl

theorem encodedAs_ldRN (dst : OpReg) (n : Byte) :
    EncodedAs [byte (0b00000110 + 8 * regCode dst), n] (Instr.ldRN dst n) := by
  cases dst <;> exact fun _ => rfl

theorem encodedAs_ldRAtHL (dst : OpReg) : EncodedAs [byte (0b01000110 + 8 * regCode dst)] (Instr.ldRAtHL dst) := by
  cases dst <;> exact fun _ => rfl

theorem encodedAs_ldAtHLR (r : OpReg) : EncodedAs [byte (0b01110000 + regCode r)] (Instr.ldAtHLR r) := by
  cases r <;> exact fun _ => rfl

theorem exec_ldRR (dst src : OpReg) (s : State) :
    exec (Instr.ldRR dst src) s = loadReg dst.reg (s.get8 src.reg) 4 s := by
  cases dst <;> cases src <;> rfl

theorem exec_ldRN (dst : OpReg) (n : Byte) (s : State) : exec (Instr.ldRN dst n) s = loadReg dst.reg n 8 s := by
  cases dst <;> rfl

theorem exec_ldRAtHL (dst : OpReg) (s : State) : exec (Instr.ldRAtHL dst) s = loadMem dst.reg s.hl 8 s := by
  cases dst <;> rfl

theorem exec_ldAtHLR (r : OpReg) (s : State) : exec (Instr.ldAtHLR r) s = storeMem s.hl (s.get8 r.reg) 8 s := by
  cases r <;> rfl

/-- Settles O3: the three forms are loads of a register, from the source's value, from the operand, and from the byte at
the HL of before the load. -/
theorem loadRegister : Obligations.LoadRegister := by
  intro dst s
  refine ⟨fun src => ⟨encodedAs_ldRR dst src, ?_⟩, fun n => ⟨encodedAs_ldRN dst n, ?_⟩,
    fun hready => ⟨encodedAs_ldRAtHL dst, ?_⟩⟩
  · exact .of_shape (exec_ldRR dst src s) (loadReg_spec _ _ 4 s dst.reg_ne_f (by decide))
  · exact .of_shape (exec_ldRN dst n s) (loadReg_spec _ _ 8 s dst.reg_ne_f (by decide))
  · exact .of_shape (exec_ldRAtHL dst s) (loadMem_spec _ _ 8 s dst.reg_ne_f (by decide) hready)

/-- Settles O4: both forms are stores at HL. -/
theorem storeAtHL : Obligations.StoreAtHL := by
  intro s hready
  refine ⟨fun r => ⟨encodedAs_ldAtHLR r, ?_⟩, fun n => ⟨fun _ => rfl, ?_⟩⟩
  · exact .of_shape (exec_ldAtHLR r s) (storeMem_spec _ _ 8 s (by decide) hready)
  · exact storeMem_spec s.hl n 12 s (by decide) hready

/-! ### Loads and stores of A -/

/-- The high page's address as the sum of R153. -/
theorem highPage_eq (n : Byte) : highPage n = 0xFF00#16 + n.setWidth 16 := by
  apply BitVec.eq_of_toNat_eq
  have hn := n.isLt
  rw [highPage, toNat_wordOf]
  simp only [BitVec.toNat_add, BitVec.toNat_setWidth, BitVec.toNat_ofNat]
  omega

/-- Settles O5: the loads of A from an address, two of them stepping HL. -/
theorem loadAccumulatorFromMemory : Obligations.LoadAccumulatorFromMemory := by
  intro s hready
  have load (a : Word) (cost : Nat) (hcost : 4 ≤ cost) := loadMem_spec .a a cost s (by decide) hcost hready
  refine ⟨⟨fun _ => rfl, load s.bc 8 (by decide)⟩, ⟨fun _ => rfl, load s.de 8 (by decide)⟩,
    fun nn => ⟨decode_n16 rfl nn, load nn 16 (by decide)⟩, fun n => ⟨fun _ => rfl, ?_⟩, ⟨fun _ => rfl, ?_⟩,
    ⟨fun _ => rfl, loadAStep_spec 1 s hready⟩, ⟨fun _ => rfl, ?_⟩⟩
  · rw [← highPage_eq]
    exact load (highPage n) 12 (by decide)
  · rw [← highPage_eq]
    exact load (highPage (s.get8 .c)) 8 (by decide)
  · rw [BitVec.sub_eq_add_neg]
    exact loadAStep_spec (-1) s hready

/-- Settles O6: the stores of A at an address, two of them stepping HL. -/
theorem storeAccumulatorToMemory : Obligations.StoreAccumulatorToMemory := by
  intro s hready
  have store (a : Word) (cost : Nat) (hcost : 4 ≤ cost) := storeMem_spec a (s.get8 .a) cost s hcost hready
  refine ⟨⟨fun _ => rfl, store s.bc 8 (by decide)⟩, ⟨fun _ => rfl, store s.de 8 (by decide)⟩,
    fun nn => ⟨decode_n16 rfl nn, store nn 16 (by decide)⟩, fun n => ⟨fun _ => rfl, ?_⟩, ⟨fun _ => rfl, ?_⟩,
    ⟨fun _ => rfl, storeAStep_spec 1 s hready⟩, ⟨fun _ => rfl, ?_⟩⟩
  · rw [← highPage_eq]
    exact store (highPage n) 12 (by decide)
  · rw [← highPage_eq]
    exact store (highPage (s.get8 .c)) 8 (by decide)
  · rw [BitVec.sub_eq_add_neg]
    exact storeAStep_spec (-1) s hready

/-! ### Pairs and SP -/

theorem encodedAs_ldRRNN (p : PairRR) (nn : Word) :
    EncodedAs [byte (0b00000001 + 16 * rrCode p), loByte nn, hiByte nn] (Instr.ldRRNN p nn) := by
  cases p <;> exact decode_n16 rfl nn

theorem exec_ldRRNN (p : PairRR) (nn : Word) (s : State) : exec (Instr.ldRRNN p nn) s = writePair p nn 12 s := by
  cases p <;> rfl

/-- Settles O7: both are writes of a pair, SP being one of them; `t.getRR .sp` is SP itself. -/
theorem loadPairOrStackPointer : Obligations.LoadPairOrStackPointer := by
  intro s
  refine ⟨fun p nn => ⟨encodedAs_ldRRNN p nn, ?_⟩, fun _ => rfl, ?_⟩
  · exact .of_shape (exec_ldRRNN p nn s) (writePair_spec p nn 12 s (by decide))
  · obtain ⟨t, ht, hsp, -, hrest⟩ := writePair_spec .sp s.hl 8 s (by decide)
    exact ⟨t, ht, hsp, hrest⟩

theorem State.busWrite_read_same (s : State) (a : Word) (v : Byte) (h : s.BusReady) :
    (s.busWrite a v).bus.mem.read a = v :=
  Bus.read_write_same s.bus a v h.memWf

/-- The two bytes of a 16-bit store and what it leaves (R106). -/
theorem State.write16_spec (s : State) (a v : Word) (h : s.BusReady) :
    (s.write16 a v).bus.mem.read a = loByte v ∧ (s.write16 a v).bus.mem.read (a + 1) = hiByte v ∧
      Frame [] [] [a, a + 1] s (s.write16 a v) := by
  have hready := s.busWrite_stays_ready a (loByte v) h
  have hlow := s.busWrite_frame a (loByte v) h
  have hhigh := State.busWrite_frame _ (a + 1) (hiByte v) hready
  have hne : a ∉ [a + 1] := by
    rw [List.mem_singleton]
    bv_omega
  exact ⟨(hhigh.mem a hne).trans (s.busWrite_read_same a _ h), State.busWrite_read_same _ _ _ hready,
    hlow.trans hhigh⟩

/-- Settles O8: one 16-bit store of SP. -/
theorem storeStackPointerLittleEndian : Obligations.StoreStackPointerLittleEndian := by
  intro s nn hready
  obtain ⟨hlow, hhigh, hframe⟩ := s.write16_spec nn s.sp hready
  exact ⟨decode_n16 rfl nn, _, rfl, (congrArg BitVec.toNat hlow).trans (toNat_loByte _),
    (congrArg BitVec.toNat hhigh).trans (toNat_hiByte _),
    .of_frame hframe 20 (by decide) rfl rfl ((Plain.refl s).write16 nn s.sp).engine⟩

/-! ### SP with a signed offset -/

theorem toNat_offsetWord (a : Word) (e : Byte) :
    ((offsetWord a e).toNat : Int) = ((a.toNat : Int) + e.toInt) % 65536 := by
  rw [offsetWord, sext8, BitVec.toNat_ofInt]
  omega

theorem addSPe_h_iff (sp : Word) (e : Byte) :
    (addSPe sp e).h = true ↔ sp.toNat % 16 + e.toNat % 16 > 15 := by
  rw [addSPe, decide_eq_true_eq, toNat_and_f, lowNibble_eq]

theorem addSPe_c_iff (sp : Word) (e : Byte) :
    (addSPe sp e).c = true ↔ sp.toNat % 256 + e.toNat > 255 := by
  rw [addSPe, decide_eq_true_eq, toNat_and_ff]

theorem State.flag_spFlags (u : State) (o : Alu16Out) :
    (u.spFlags o).flag .z = false ∧ (u.spFlags o).flag .n = false ∧ (u.spFlags o).flag .h = o.h ∧
      (u.spFlags o).flag .c = o.c := by
  simp [State.spFlags, FlagWrite.named]

theorem State.spFlags_frame (u : State) (o : Alu16Out) : Frame [] [.z, .n, .h, .c] [] u (u.spFlags o) :=
  State.setFlags_frame u _ _ fun g hg => absurd (by cases g <;> simp) hg

/-- The flags of the SP-relative adds: the carries of the unsigned low-byte sums (R63). -/
theorem State.flag_spFlags_addSPe (u : State) (sp : Word) (e : Byte) :
    (u.spFlags (addSPe sp e)).flag .z = false ∧ (u.spFlags (addSPe sp e)).flag .n = false ∧
    ((u.spFlags (addSPe sp e)).flag .h = true ↔ sp.toNat % 16 + e.toNat % 16 > 15) ∧
    ((u.spFlags (addSPe sp e)).flag .c = true ↔ sp.toNat % 256 + e.toNat > 255) := by
  obtain ⟨hz, hn, hh, hc⟩ := u.flag_spFlags (addSPe sp e)
  rw [hh, hc]
  exact ⟨hz, hn, addSPe_h_iff sp e, addSPe_c_iff sp e⟩

/-- Settles O9: both add the offset to SP and write the same flags; the result goes to HL or to SP, which no flag write
touches. -/
theorem signedOffsetFromStackPointer : Obligations.SignedOffsetFromStackPointer := by
  intro s e
  have hsum := toNat_offsetWord s.sp e
  refine ⟨⟨fun _ => rfl, _, rfl, ?_⟩, ⟨fun _ => rfl, _, rfl, ?_⟩⟩
  · let u := s.setHL (offsetWord s.sp e)
    obtain ⟨hz, hn, hh, hc⟩ := u.flag_spFlags_addSPe s.sp e
    have hhl : (u.hl.toNat : Int) = ((s.sp.toNat : Int) + e.toInt) % 65536 := by rw [State.setHL_hl, hsum]
    have hframe := (s.splitInto_frame (offsetWord s.sp e) .h .l (by decide) (by decide)).trans
      (u.spFlags_frame (addSPe s.sp e))
    exact ⟨hhl, hz, hn, hh, hc, .of_frame hframe 12 (by decide) rfl rfl (((Plain.refl s).setHL _).spFlags _).engine⟩
  · let u : State := { s with sp := offsetWord s.sp e }
    obtain ⟨hz, hn, hh, hc⟩ := u.flag_spFlags_addSPe s.sp e
    have hframe := (Frame.of_eq s u rfl rfl).trans (u.spFlags_frame (addSPe s.sp e))
    exact ⟨hsum, hz, hn, hh, hc, rfl, hframe.charge 16,
      ((((Plain.refl s).setSP _).spFlags _).charge (by decide)).engine, costs_charge s _ 16 (by decide) rfl⟩

/-! ### The stack -/

theorem encodedAs_pushQQ (q : PairQQ) : EncodedAs [byte (0b11000101 + 16 * qqCode q)] (Instr.pushQQ q) := by
  cases q <;> exact fun _ => rfl

theorem encodedAs_popQQ (q : PairQQ) : EncodedAs [byte (0b11000001 + 16 * qqCode q)] (Instr.popQQ q) := by
  cases q <;> exact fun _ => rfl

/-- Settles O10: one push of the pair's value. -/
theorem pushStoresPairBelowStackTop : Obligations.PushStoresPairBelowStackTop := by
  intro s q hready
  obtain ⟨hhigh, hlow⟩ := s.push16_bytes (s.getQQ q) hready
  have hsp : (s.push16 (s.getQQ q)).sp = s.sp - 2 := by rw [s.push16_ready _ hready]
  refine ⟨encodedAs_pushQQ q, .of_shape (exec_pushQQ q s) ⟨_, rfl, ?_⟩⟩
  exact ⟨hsp, hhigh, hlow, rfl, (s.push16_frame _ hready).charge 16,
    (((Plain.refl s).push16 _).charge (by decide)).engine, costs_charge s _ 16 (by decide) rfl⟩

/-- `POP qq` with no other unit on the bus (R225). -/
theorem popPair_ready (q : PairQQ) (s : State) (h : s.BusReady) :
    popPair q s = .next ((State.setQQ { s with sp := s.sp + 2 } q
      (wordOf (s.bus.mem.read (s.sp + 1)) (s.bus.mem.read s.sp))).charge 12) := by
  simp only [popPair, s.pop16_ready h]

/-- SP rises by 2 and two registers other than F take a word: what POP leaves for BC, DE and HL (R225). -/
theorem popInto_spec {hi lo : Reg8} (hhi : hi ≠ .f) (hlo : lo ≠ .f) (hne : hi ≠ lo) (s : State) (v : Word)
    {t : State} (ht : t = (State.splitInto { s with sp := s.sp + 2 } v hi lo).charge 12) :
    t.combine hi lo = v ∧ t.sp = s.sp + 2 ∧ t.pc = s.pc ∧ Frame [hi, lo] [] [] s t ∧ KeepsEngine s t ∧
      Costs 12 s t := by
  subst ht
  let u : State := { s with sp := s.sp + 2 }
  obtain ⟨hback, -⟩ := pairViewReadsBackWhatIsSplit u v hi lo hne (.inr ⟨hhi, hlo⟩)
  have hframe := (Frame.of_eq s u rfl rfl).trans (u.splitInto_frame v hi lo hhi hlo)
  exact ⟨hback, u.splitInto_sp v hi lo, u.splitInto_pc v hi lo, hframe.charge 12,
    ((((Plain.refl s).setSP _).splitInto hhi hlo v).charge (by decide)).engine,
    costs_charge s _ 12 (by decide) (u.splitInto_cfg v hi lo)⟩

/-- A direct write of F stores the flags' bits in either mode (R40). -/
theorem flagOf_directF (mode : FLowMode) (v : Byte) (g : Flag) : flagOf (directF mode v) g = v.getLsbD g.pos := by
  cases mode
  case asWritten => rfl
  case zero => cases g <;> simp [flagOf, directF, Flag.pos]

/-- `POP AF` with no other unit on the bus: A takes the high byte, and the low byte is a direct write of F (R225). -/
theorem exec_popAF_ready (s : State) (h : s.BusReady) :
    exec .pop_AF s = .next (((State.set8 { s with sp := s.sp + 2 } .a (s.bus.mem.read (s.sp + 1))).set8 .f
      (s.bus.mem.read s.sp)).charge 12) := by
  refine (exec_popQQ .af s).trans ?_
  rw [popPair_ready .af s h, State.setQQ, State.splitInto, hiByte_wordOf, loByte_wordOf]

/-- Settles O11: the popped word is split into the pair's registers; for AF each flag is read from the direct write of
F. -/
theorem popLoadsPairFromStackTop : Obligations.PopLoadsPairFromStackTop := by
  intro s hready
  refine ⟨fun q hq => ⟨encodedAs_popQQ q, ?_⟩, fun _ => rfl, ?_⟩
  · refine .of_shape ((exec_popQQ q s).trans (popPair_ready q s hready)) ⟨_, rfl, ?_⟩
    cases q
    case af => exact absurd rfl hq
    all_goals exact popInto_spec (by decide) (by decide) (by decide) s _ rfl
  · have hexec := exec_popAF_ready s hready
    have hflag := flagOf_directF s.cfg.fLowMode (s.bus.mem.read s.sp)
    have hF := fun mode (hmode : s.cfg.fLowMode = mode) => congrArg (directF · (s.bus.mem.read s.sp)) hmode
    refine ⟨_, hexec, rfl, hF .asWritten, hF .zero, hflag .z, hflag .n, hflag .h, hflag .c, rfl, rfl, ?_,
      fun _ => rfl, rfl, ((exec_popAF s).of_next hexec).1, costs_charge s _ 12 (by decide) rfl⟩
    intro r ha hf
    rw [State.get8_charge, State.get8_set8_other _ _ _ _ hf, State.get8_set8_other _ _ _ _ ha]
    rfl

end Sys2Proof.Machine
end

section
/-! The 8-bit arithmetic and logic: the ALU rows in their three operand forms, the byte increments and decrements, and
the rows about A and the flags alone. -/

open Sys2Proof.Claims

namespace Sys2Proof.Machine

/-! ### The operand forms of the ALU -/

theorem encodedAs_aluForm (op : AluOp) (form : AluForm) : EncodedAs (aluBytes op form) (form.instr op) := by
  cases form with
  | reg r => cases op <;> cases r <;> exact fun _ => rfl
  | atHL => cases op <;> exact fun _ => rfl
  | imm n => cases op <;> exact fun _ => rfl

theorem exec_aluR (op : AluOp) (r : OpReg) (s : State) :
    exec (Instr.aluR op r) s = aluValue op (s.get8 r.reg) 4 s := by
  cases op <;> cases r <;> rfl

theorem exec_aluAtHL (op : AluOp) (s : State) : exec (Instr.aluAtHL op) s = aluMem op s := by
  cases op <;> rfl

theorem exec_aluN (op : AluOp) (n : Byte) (s : State) : exec (Instr.aluN op n) s = aluValue op n 8 s := by
  cases op <;> rfl

/-- Every ALU row is the operation on the value its form names; only `(HL)` asks anything of the bus. -/
theorem exec_aluForm (op : AluOp) (form : AluForm) (s : State) (hready : form = .atHL → s.BusReady) :
    exec (form.instr op) s = aluValue op (form.source s) form.cost s := by
  cases form with
  | reg r => exact exec_aluR op r s
  | atHL => exact (exec_aluAtHL op s).trans (aluMem_ready op s (hready rfl))
  | imm n => exact exec_aluN op n s

theorem AluForm.four_le_cost (form : AluForm) : 4 ≤ form.cost := by
  cases form <;> simp [AluForm.cost]

/-- The four flags in `t` are those an 8-bit helper reports, with N as said. -/
structure AluOut.FlagsIn (o : AluOut) (n : Bool) (t : State) : Prop where
  z : t.flag .z = o.z
  n : t.flag .n = n
  h : t.flag .h = o.h
  c : t.flag .c = o.c

/-- A write of all four flags of a helper, charged. -/
theorem AluOut.flagsIn_setFlags (o : AluOut) (n : Bool) (u : State) (cost : Nat) :
    o.FlagsIn n ((u.setFlags { z := some o.z, n := some n, h := some o.h, c := some o.c }).charge cost) := by
  constructor <;> simp [FlagWrite.named]

section

variable {s : State} {form : AluForm} (hready : form = .atHL → s.BusReady)
include hready

/-- An ALU row that writes A and the four flags: its encoding, what is written, and what is left. -/
theorem runs_setAFlags {op : AluOp} {o : AluOut} {n : Bool} {P : State → Prop}
    (hop : op ≠ .cp) (hout : s.alu op (form.source s) = s.setAFlags o n)
    (hP : ∀ t, t.get8 .a = o.res → o.FlagsIn n t → DataOnly [.a] [.z, .n, .h, .c] [] form.cost s t → P t) :
    Runs (aluBytes op form) (form.instr op) s P := by
  obtain ⟨hexec, hdata⟩ := aluValue_spec op (form.source s) form.cost s form.four_le_cost
  rw [hout, if_neg hop] at hdata
  rw [hout, ← exec_aluForm op form s hready] at hexec
  exact ⟨encodedAs_aluForm op form, _, hexec, hP _ rfl (o.flagsIn_setFlags n _ form.cost) hdata⟩

/-- CP writes the flags of the difference and no register. -/
theorem runs_cp {P : State → Prop}
    (hP : ∀ t, (sub8 (s.get8 .a) (form.source s) false).FlagsIn true t →
      DataOnly [] [.z, .n, .h, .c] [] form.cost s t → P t) :
    Runs (aluBytes .cp form) (form.instr .cp) s P := by
  obtain ⟨hexec, hdata⟩ := aluValue_spec .cp (form.source s) form.cost s form.four_le_cost
  rw [← exec_aluForm .cp form s hready] at hexec
  exact ⟨encodedAs_aluForm .cp form, _, hexec, hP _ (AluOut.flagsIn_setFlags _ true s form.cost) hdata⟩

end

/-! ### Sums -/

theorem add8_z_iff (a b : Byte) (cin : Bool) :
    (add8 a b cin).z = true ↔ (a.toNat + b.toNat + cin.toNat) % 256 = 0 := by
  rw [← add8_res]
  exact isZero_iff _

theorem add8_h_iff (a b : Byte) (cin : Bool) :
    (add8 a b cin).h = true ↔ a.toNat % 16 + b.toNat % 16 + cin.toNat > 15 := by
  rw [add8, decide_eq_true_eq, lowNibble_eq, lowNibble_eq]

theorem add8_c_iff (a b : Byte) (cin : Bool) : (add8 a b cin).c = true ↔ a.toNat + b.toNat + cin.toNat > 255 :=
  decide_eq_true_iff

theorem AluOut.FlagsIn.sumFlags {a b : Byte} {cin : Bool} {t : State} (h : (add8 a b cin).FlagsIn false t) :
    SumFlags t a.toNat b.toNat cin.toNat :=
  ⟨by rw [h.z, add8_z_iff], h.n, by rw [h.h, add8_h_iff], by rw [h.c, add8_c_iff]⟩

/-- Settles O13: both rows write the three-input sum and its flags, ADD with no carry-in. -/
theorem addWithAndWithoutCarry : Obligations.AddWithAndWithoutCarry := by
  intro s form hready
  have sum (cin : Bool) {t : State} (hA : t.get8 .a = (add8 (s.get8 .a) (form.source s) cin).res) :=
    (congrArg BitVec.toNat hA).trans (add8_res _ _ cin)
  exact ⟨runs_setAFlags hready (by decide) rfl fun _ hA hF hD => ⟨sum false hA, hF.sumFlags, hD⟩,
    runs_setAFlags hready (by decide) rfl fun _ hA hF hD => ⟨sum (s.flag .c) hA, hF.sumFlags, hD⟩⟩

/-! ### Differences -/

theorem sub8_z_iff (a b : Byte) (cin : Bool) :
    (sub8 a b cin).z = true ↔ (a.toNat + 512 - b.toNat - cin.toNat) % 256 = 0 := by
  rw [← sub8_res]
  exact isZero_iff _

theorem sub8_h_iff (a b : Byte) (cin : Bool) :
    (sub8 a b cin).h = true ↔ a.toNat % 16 < b.toNat % 16 + cin.toNat := by
  rw [sub8, decide_eq_true_eq, lowNibble_eq, lowNibble_eq]

theorem sub8_c_iff (a b : Byte) (cin : Bool) : (sub8 a b cin).c = true ↔ a.toNat < b.toNat + cin.toNat :=
  decide_eq_true_iff

/-- Without a borrow-in one 256 is enough to keep the difference from falling below 0. -/
theorem sub8_res_noBorrow (a b : Byte) : (sub8 a b false).res.toNat = (a.toNat + 256 - b.toNat) % 256 := by
  have hb := b.isLt
  rw [sub8_res, Bool.toNat_false]
  omega

theorem AluOut.FlagsIn.diffFlags {a b : Byte} {cin : Bool} {t : State} (h : (sub8 a b cin).FlagsIn true t) :
    DiffFlags t a.toNat b.toNat cin.toNat :=
  ⟨by rw [h.z, sub8_z_iff], h.n, by rw [h.h, sub8_h_iff], by rw [h.c, sub8_c_iff]⟩

/-- Settles O14: the three rows write the flags of the three-input difference, SUB and CP with no borrow-in; SUB and SBC
write A as well. -/
theorem subtractBorrowAndCompare : Obligations.SubtractBorrowAndCompare := by
  intro s form hready
  refine ⟨runs_setAFlags hready (by decide) rfl fun t hA hF hD => ⟨?_, hF.diffFlags, hD⟩,
    runs_setAFlags hready (by decide) rfl fun t hA hF hD => ⟨?_, hF.diffFlags, hD⟩,
    runs_cp hready fun t hF hD => ⟨hF.diffFlags, hD⟩⟩
  · rw [hA, sub8_res_noBorrow]
  · rw [hA, sub8_res]

/-! ### Bitwise logic -/

/-- AND, XOR and OR: the helper's result is `f` bit by bit, Z tests the result, N and C are clear. -/
theorem runs_logic {s : State} {form : AluForm} (hready : form = .atHL → s.BusReady) (op : AluOp) (o : AluOut)
    (f : Bool → Bool → Bool) (hop : op ≠ .cp) (hout : s.alu op (form.source s) = s.setAFlags o false)
    (hbits : ∀ k, o.res.getLsbD k = f ((s.get8 .a).getLsbD k) ((form.source s).getLsbD k))
    (hz : o.z = isZero o.res) (hc : o.c = false) :
    Runs (aluBytes op form) (form.instr op) s fun t =>
      (∀ k < 8, (t.get8 .a).getLsbD k = f ((s.get8 .a).getLsbD k) ((form.source s).getLsbD k)) ∧
      (t.flag .z = true ↔ t.get8 .a = 0x00#8) ∧ t.flag .n = false ∧ t.flag .h = o.h ∧ t.flag .c = false ∧
      DataOnly [.a] [.z, .n, .h, .c] [] form.cost s t := by
  refine runs_setAFlags hready hop hout fun t hA hF hD => ⟨fun k _ => ?_, ?_, hF.n, hF.h, hF.c.trans hc, hD⟩
  · rw [hA, hbits]
  · rw [hF.z, hz, hA]
    exact decide_eq_true_iff

/-- Settles O15: each bit of the result is the operation on the two bits; the helpers report H as a constant. -/
theorem bitwiseLogicOnAccumulator : Obligations.BitwiseLogicOnAccumulator := by
  intro s form hready
  let a := s.get8 .a
  let src := form.source s
  exact ⟨runs_logic hready .and (and8 a src) and (by decide) rfl (fun _ => BitVec.getLsbD_and) rfl rfl,
    runs_logic hready .xor (xor8 a src) bne (by decide) rfl (fun _ => BitVec.getLsbD_xor) rfl rfl,
    runs_logic hready .or (or8 a src) or (by decide) rfl (fun _ => BitVec.getLsbD_or) rfl rfl⟩

/-! ### Increment and decrement of a byte -/

theorem inc8_z_iff (v : Byte) : (inc8 v).z = true ↔ v.toNat = 255 := by
  have hv := v.isLt
  have hz : (inc8 v).z = true ↔ (inc8 v).res.toNat = 0 := isZero_iff _
  rw [hz, inc8_res]
  omega

theorem inc8_h_iff (v : Byte) : (inc8 v).h = true ↔ v.toNat % 16 = 15 := by
  rw [inc8, decide_eq_true_eq, lowNibble_eq]

theorem dec8_z_iff (v : Byte) : (dec8 v).z = true ↔ v.toNat = 1 := by
  have hv := v.isLt
  have hz : (dec8 v).z = true ↔ (dec8 v).res.toNat = 0 := isZero_iff _
  rw [hz, dec8_res]
  omega

theorem dec8_h_iff (v : Byte) : (dec8 v).h = true ↔ v.toNat % 16 = 0 := by
  rw [dec8, decide_eq_true_eq, lowNibble_eq]

theorem encodedAs_incR (r : OpReg) : EncodedAs [byte (0b00000100 + 8 * regCode r)] (Instr.incR r) := by
  cases r <;> exact fun _ => rfl

theorem encodedAs_decR (r : OpReg) : EncodedAs [byte (0b00000101 + 8 * regCode r)] (Instr.decR r) := by
  cases r <;> exact fun _ => rfl

theorem exec_incR (r : OpReg) (s : State) : exec (Instr.incR r) s = incDecReg inc8 false r.reg s := by
  cases r <;> rfl

theorem exec_decR (r : OpReg) (s : State) : exec (Instr.decR r) s = incDecReg dec8 true r.reg s := by
  cases r <;> rfl

/-- Settles O16: a register and the byte at HL go through the same two helpers. -/
theorem incrementDecrementByte : Obligations.IncrementDecrementByte := by
  intro s
  refine ⟨fun r => ⟨⟨encodedAs_incR r, ?_⟩, encodedAs_decR r, ?_⟩,
    fun hready => ⟨⟨fun _ => rfl, ?_⟩, fun _ => rfl, ?_⟩⟩
  · obtain ⟨t, ht, hv, hz, hn, hh, hd⟩ := incDecReg_spec inc8 false r.reg s r.reg_ne_f
    exact ⟨t, (exec_incR r s).trans ht, hv ▸ inc8_res _, hz ▸ inc8_z_iff _, hn, hh ▸ inc8_h_iff _, hd⟩
  · obtain ⟨t, ht, hv, hz, hn, hh, hd⟩ := incDecReg_spec dec8 true r.reg s r.reg_ne_f
    exact ⟨t, (exec_decR r s).trans ht, hv ▸ dec8_res _, hz ▸ dec8_z_iff _, hn, hh ▸ dec8_h_iff _, hd⟩
  · obtain ⟨t, ht, hv, hz, hn, hh, hd⟩ := incDecMem_spec inc8 false s hready
    exact ⟨t, ht, hv ▸ inc8_res _, hz ▸ inc8_z_iff _, hn, hh ▸ inc8_h_iff _, hd⟩
  · obtain ⟨t, ht, hv, hz, hn, hh, hd⟩ := incDecMem_spec dec8 true s hready
    exact ⟨t, ht, hv ▸ dec8_res _, hz ▸ dec8_z_iff _, hn, hh ▸ dec8_h_iff _, hd⟩

/-! ### A and the flags alone -/

/-- A row that writes flags, in one clock unit. -/
theorem State.setFlags_dataOnly (s : State) (w : FlagWrite) (flags : List Flag)
    (hw : ∀ g, g ∉ flags → w.named g = none) : DataOnly [] flags [] 4 s ((s.setFlags w).charge 4) :=
  .of_frame (s.setFlags_frame w flags hw) 4 (by decide) rfl rfl ((Plain.refl s).setFlags w).engine

/-- A row that writes A and flags, in one clock unit. -/
theorem State.setA_setFlags_dataOnly (s : State) (v : Byte) (w : FlagWrite) (flags : List Flag)
    (hw : ∀ g, g ∉ flags → w.named g = none) : DataOnly [.a] flags [] 4 s (((s.set8 .a v).setFlags w).charge 4) :=
  .of_frame ((s.set8_frame .a v (by decide)).trans ((s.set8 .a v).setFlags_frame w flags hw)) 4 (by decide) rfl rfl
    (((Plain.refl s).set8 (by decide) v).setFlags w).engine

/-- Decimal adjustment after an addition (R68). -/
theorem daa_of_add (a : Byte) {n : Bool} (h c : Bool) (hn : n = false) :
    (daa a n h c).res.toNat = (a.toNat + (if c = true ∨ a.toNat > 0x99 then 0x60 else 0) +
      (if h = true ∨ a.toNat % 16 > 9 then 6 else 0)) % 256 ∧
    ((daa a n h c).c = true ↔ c = true ∨ a.toNat > 0x99) := by
  subst hn
  simp [daa, lowNibble_eq, Nat.add_assoc]

/-- Decimal adjustment after a subtraction (R68). -/
theorem daa_of_sub (a : Byte) {n : Bool} (h c : Bool) (hn : n = true) :
    (daa a n h c).res.toNat = (a.toNat + 512 - (if c = true then 0x60 else 0) -
      (if h = true then 6 else 0)) % 256 ∧
    (daa a n h c).c = c := by
  subst hn
  refine ⟨?_, rfl⟩
  simp only [daa, if_true, BitVec.toNat_ofInt]
  split_ifs <;> omega

theorem daa_z_iff (a : Byte) (n h c : Bool) : (daa a n h c).z = true ↔ (daa a n h c).res = 0x00#8 := by
  cases n <;> exact decide_eq_true_iff

/-- Settles O17: one adjustment of A, whose two cases N chooses; the flag write does not name N. -/
theorem decimalAdjust : Obligations.DecimalAdjust := by
  intro s
  let o := daa (s.get8 .a) (s.flag .n) (s.flag .h) (s.flag .c)
  let w : FlagWrite := { z := some o.z, h := some false, c := some o.c }
  let t := ((s.set8 .a o.res).setFlags w).charge 4
  have hflag (g : Flag) : t.flag g = (w.named g).getD (s.flag g) := State.flag_setFlags_eq _ w g
  have hA : t.get8 .a = o.res := rfl
  have hz : t.flag .z = o.z := hflag .z
  have hc : t.flag .c = o.c := hflag .c
  have hframe : ∀ g, g ∉ [Flag.z, .h, .c] → w.named g = none := by
    intro g hg
    cases g <;> simp_all [w, FlagWrite.named]
  refine ⟨fun _ => rfl, t, rfl, fun hn => ?_, fun hn => ?_, ?_, hflag .h, s.setA_setFlags_dataOnly o.res w _ hframe⟩
  · rw [hA, hc]
    exact daa_of_add _ _ _ hn
  · rw [hA, hc]
    exact daa_of_sub _ _ _ hn
  · rw [hA, hz]
    exact daa_z_iff _ _ _ _

theorem toNat_complement (a : Byte) : (a ^^^ 0xFF#8).toNat = 255 - a.toNat := by
  rw [show 0xFF#8 = BitVec.allOnes 8 from rfl, BitVec.xor_allOnes, BitVec.toNat_not]

/-- Settles O18: CPL complements A, and each row writes the flags it names and no other. -/
theorem complementAndCarryFlag : Obligations.ComplementAndCarryFlag := by
  intro s
  have hflag := State.flag_setFlags_eq
  refine ⟨⟨fun _ => rfl, _, rfl, toNat_complement _, hflag _ _ .n, hflag _ _ .h,
      s.setA_setFlags_dataOnly _ _ _ ?_⟩,
    ⟨fun _ => rfl, _, rfl, hflag _ _ .n, hflag _ _ .h, hflag _ _ .c, s.setFlags_dataOnly _ _ ?_⟩,
    fun _ => rfl, _, rfl, hflag _ _ .n, hflag _ _ .h, hflag _ _ .c, s.setFlags_dataOnly _ _ ?_⟩
  all_goals
    intro g hg
    cases g <;> simp_all [FlagWrite.named]

end Sys2Proof.Machine
end

section
/-! The 16-bit arithmetic: ADD HL,rr, and the pair increments and decrements. -/

open Sys2Proof.Claims

namespace Sys2Proof.Machine

/-! ### Sums into HL -/

theorem encodedAs_addHLRR (p : PairRR) : EncodedAs [byte (0b00001001 + 16 * rrCode p)] (Instr.addHLRR p) := by
  cases p <;> exact fun _ => rfl

theorem exec_addHLRR (p : PairRR) (s : State) : exec (Instr.addHLRR p) s = addHL p s := by
  cases p <;> rfl

theorem add16_h_iff (a b : Word) : (add16 a b).h = true ↔ a.toNat % 4096 + b.toNat % 4096 > 4095 := by
  rw [add16, decide_eq_true_eq, toNat_and_fff, toNat_and_fff]

theorem add16_c_iff (a b : Word) : (add16 a b).c = true ↔ a.toNat + b.toNat > 65535 :=
  decide_eq_true_iff

/-- ADD HL,rr writes the sum of the old HL and the operand and its two carries; Z is not written (R300). -/
theorem addHL_spec (p : PairRR) (s : State) :
    ∃ t, addHL p s = .next t ∧ t.hl = (add16 s.hl (s.getRR p)).res ∧ t.flag .n = false ∧
      t.flag .h = (add16 s.hl (s.getRR p)).h ∧ t.flag .c = (add16 s.hl (s.getRR p)).c ∧
      DataOnly [.h, .l] [.n, .h, .c] [] 8 s t := by
  let o := add16 s.hl (s.getRR p)
  let u := s.setHL o.res
  let w : FlagWrite := { n := some false, h := some o.h, c := some o.c }
  have hflag (g : Flag) : (u.setFlags w).flag g = (w.named g).getD (u.flag g) := u.flag_setFlags_eq w g
  have hw : ∀ g, g ∉ [Flag.n, .h, .c] → w.named g = none := by
    intro g hg
    cases g <;> simp_all [w, FlagWrite.named]
  have hframe := (s.splitInto_frame o.res .h .l (by decide) (by decide)).trans (u.setFlags_frame w _ hw)
  exact ⟨(u.setFlags w).charge 8, rfl, s.setHL_hl o.res, hflag .n, hflag .h, hflag .c,
    .of_frame hframe 8 (by decide) rfl rfl (((Plain.refl s).setHL o.res).setFlags w).engine⟩

/-- Settles O19: HL and the flags are those of `add16` on the old HL and the operand. -/
theorem addPairToHL : Obligations.AddPairToHL := by
  intro s p
  obtain ⟨t, ht, hhl, hn, hh, hc, hdata⟩ := addHL_spec p s
  refine ⟨encodedAs_addHLRR p, t, (exec_addHLRR p s).trans ht, ?_, hn, ?_, ?_, hdata⟩
  · rw [hhl, add16_res]
  · rw [hh, add16_h_iff]
  · rw [hc, add16_c_iff]

/-! ### Increment and decrement of a pair -/

theorem encodedAs_incRR (p : PairRR) : EncodedAs [byte (0b00000011 + 16 * rrCode p)] (Instr.incRR p) := by
  cases p <;> exact fun _ => rfl

theorem encodedAs_decRR (p : PairRR) : EncodedAs [byte (0b00001011 + 16 * rrCode p)] (Instr.decRR p) := by
  cases p <;> exact fun _ => rfl

theorem exec_incRR (p : PairRR) (s : State) : exec (Instr.incRR p) s = writePair p (s.getRR p + 1) 8 s := by
  cases p <;> rfl

theorem exec_decRR (p : PairRR) (s : State) : exec (Instr.decRR p) s = writePair p (s.getRR p - 1) 8 s := by
  cases p <;> rfl

/-- Settles O20: both are writes of the pair, with its old value one more or one less; SP changes where it is the
pair. -/
theorem incrementDecrementPair : Obligations.IncrementDecrementPair := by
  intro s p
  refine ⟨⟨encodedAs_incRR p, ?_⟩, encodedAs_decRR p, ?_⟩
  · obtain ⟨t, ht, hv, hsp, hrest⟩ := writePair_spec p (s.getRR p + 1) 8 s (by decide)
    refine ⟨t, (exec_incRR p s).trans ht, ?_, fun hp => hsp.trans (if_neg hp), hrest⟩
    rw [hv, BitVec.toNat_add]
    rfl
  · obtain ⟨t, ht, hv, hsp, hrest⟩ := writePair_spec p (s.getRR p - 1) 8 s (by decide)
    refine ⟨t, (exec_decRR p s).trans ht, ?_, fun hp => hsp.trans (if_neg hp), hrest⟩
    rw [hv, BitVec.toNat_sub, Nat.add_comm]
    rfl

end Sys2Proof.Machine
end

section
/-! The rotates and shifts: each operation over the exact numbers of its rule, and the rows of the accumulator, of the
registers and of the byte at HL. -/

open Sys2Proof.Claims

namespace Sys2Proof.Machine

/-! ### The operations over the exact numbers -/

theorem toNat_bitByte (b : Bool) : (bitByte b).toNat = b.toNat := by
  cases b <;> rfl

theorem toNat_getLsbD_seven (v : Byte) : (v.getLsbD 7).toNat = v.toNat / 128 := by
  have hv := v.isLt
  have hbit : (v.getLsbD 7).toNat = v.toNat / 2 ^ 7 % 2 := Nat.toNat_testBit v.toNat 7
  omega

theorem toNat_getLsbD_zero (v : Byte) : (v.getLsbD 0).toNat = v.toNat % 2 := by
  have hbit : (v.getLsbD 0).toNat = v.toNat / 2 ^ 0 % 2 := Nat.toNat_testBit v.toNat 0
  rw [hbit, Nat.pow_zero, Nat.div_one]

theorem toNat_shiftLeft_eq (v : Byte) (k : Nat) : (v <<< k).toNat = v.toNat * 2 ^ k % 256 := by
  rw [BitVec.toNat_shiftLeft, Nat.shiftLeft_eq]

theorem toNat_shiftRight_eq (v : Byte) (k : Nat) : (v >>> k).toNat = v.toNat / 2 ^ k := by
  rw [BitVec.toNat_ushiftRight, Nat.shiftRight_eq_div_pow]

/-- Two bytes, one with bits from bit `k` up alone and one with bits below it, share none: their OR is their sum. -/
theorem toNat_or_of_lt {hi lo : Byte} (k : Nat) {n : Nat} (hhi : hi.toNat = 2 ^ k * n) (hlo : lo.toNat < 2 ^ k) :
    (hi ||| lo).toNat = hi.toNat + lo.toNat := by
  rw [BitVec.toNat_or, hhi, Nat.two_pow_add_eq_or_of_lt hlo]

/-- A left shift with a bit let in at bit 0. -/
theorem toNat_shiftLeft_or_bitByte (v : Byte) (b : Bool) :
    (v <<< 1 ||| bitByte b).toNat = v.toNat * 2 % 256 + b.toNat := by
  have hhi : (v <<< 1).toNat = 2 ^ 1 * (v.toNat % 128) := by
    rw [toNat_shiftLeft_eq]
    omega
  have hlo : (bitByte b).toNat < 2 ^ 1 := toNat_bitByte b ▸ b.toNat_lt
  rw [toNat_or_of_lt 1 hhi hlo, toNat_shiftLeft_eq, toNat_bitByte]
  rfl

/-- A right shift with a bit let in at bit 7. -/
theorem toNat_shiftRight_or_bitByte (v : Byte) (b : Bool) :
    (v >>> 1 ||| bitByte b <<< 7).toNat = v.toNat / 2 + 128 * b.toNat := by
  have hv := v.isLt
  have hhi : (bitByte b <<< 7).toNat = 2 ^ 7 * b.toNat := by
    cases b <;> rfl
  have hlo : (v >>> 1).toNat < 2 ^ 7 := by
    rw [toNat_shiftRight_eq]
    omega
  rw [BitVec.or_comm, toNat_or_of_lt 7 hhi hlo, hhi, toNat_shiftRight_eq, Nat.add_comm]
  rfl

/-- The bit 7 that SRA keeps. -/
theorem and_0x80_eq_bitByte (v : Byte) : v &&& 0x80#8 = bitByte (v.getLsbD 7) <<< 7 := by
  rw [show 0x80#8 = BitVec.twoPow 8 7 from rfl, BitVec.and_twoPow]
  cases v.getLsbD 7 <;> rfl

theorem toNat_swap_res (v : Byte) : (swap v).res.toNat = v.toNat % 16 * 16 + v.toNat / 16 := by
  have hv := v.isLt
  have hhi : (v <<< 4).toNat = 2 ^ 4 * (v.toNat % 16) := by
    rw [toNat_shiftLeft_eq]
    omega
  have hlo : (v >>> 4).toNat < 2 ^ 4 := by
    rw [toNat_shiftRight_eq]
    omega
  rw [swap, toNat_or_of_lt 4 hhi hlo, hhi, toNat_shiftRight_eq, Nat.mul_comm]
  rfl

/-- The result of each operation, as a number (R64-R66). -/
theorem rotate_res (op : RotOp) (v : Byte) (cin : Bool) :
    (rotate op v cin).res.toNat = (shiftNumber op v.toNat cin.toNat).1 := by
  cases op with
  | rlc => exact (toNat_shiftLeft_or_bitByte v _).trans (by rw [toNat_getLsbD_seven]; rfl)
  | rrc => exact (toNat_shiftRight_or_bitByte v _).trans (by rw [toNat_getLsbD_zero]; rfl)
  | rl => exact toNat_shiftLeft_or_bitByte v cin
  | rr => exact toNat_shiftRight_or_bitByte v cin
  | sla => exact toNat_shiftLeft_eq v 1
  | sra =>
    rw [rotate, sra, and_0x80_eq_bitByte, toNat_shiftRight_or_bitByte, toNat_getLsbD_seven]
    rfl
  | swap => exact toNat_swap_res v
  | srl => exact toNat_shiftRight_eq v 1

/-- The bit each operation shifts out: bit 7, bit 0, or none for SWAP (R64-R66, R336). -/
theorem rotate_cout (op : RotOp) (v : Byte) (cin : Bool) :
    (rotate op v cin).cout = (shiftNumber op v.toNat cin.toNat).2 := by
  have seven : v.getLsbD 7 = decide (v.toNat ≥ 128) := BitVec.msb_eq_decide v
  have zero : v.getLsbD 0 = decide (v.toNat % 2 = 1) := Nat.testBit_zero v.toNat
  cases op with
  | rlc | rl | sla => exact seven
  | rrc | rr | sra | srl => exact zero
  | swap => rfl

/-! ### The accumulator -/

/-- An accumulator rotate writes A and all four flags. -/
theorem rotA_spec (o : ShiftOut) (s : State) :
    ∃ t, rotA o s = .next t ∧ t.get8 .a = o.res ∧ ShiftFlags t false o.cout ∧
      DataOnly [.a] [.z, .n, .h, .c] [] 4 s t := by
  have hflag := (s.set8 .a o.res).flag_setFlags_eq
  exact ⟨_, rfl, rfl, ⟨hflag _ .z, hflag _ .n, hflag _ .h, hflag _ .c⟩,
    s.setA_setFlags_dataOnly o.res _ _ fun g hg => absurd (by cases g <;> simp) hg⟩

/-- The four accumulator rows, with their encodings, are the rotates of R64 on A. -/
theorem accumulatorRotate_row {op : RotOp} {i : Instr}
    (h : (op, i) ∈ [(RotOp.rlc, Instr.rlca), (.rrc, .rrca), (.rl, .rla), (.rr, .rra)]) :
    EncodedAs [byte (8 * rotCode op + 7)] i ∧
      ∀ s, exec i s = rotA (rotate op (s.get8 .a) (s.flag .c)) s := by
  fin_cases h <;> exact ⟨fun _ => rfl, fun _ => rfl⟩

/-- Settles O21: the flag write names Z as clear, not as a test of the result. -/
theorem accumulatorRotatesClearZero : Obligations.AccumulatorRotatesClearZero := by
  intro s op i h
  obtain ⟨hencoded, hexec⟩ := accumulatorRotate_row h
  obtain ⟨t, ht, hA, hF, hD⟩ := rotA_spec (rotate op (s.get8 .a) (s.flag .c)) s
  refine ⟨hencoded, t, (hexec s).trans ht, ?_, ?_, hD⟩
  · rw [hA, rotate_res]
  · rwa [← rotate_cout]

/-! ### Registers and the byte at HL -/

theorem encodedAs_rotR (op : RotOp) (r : OpReg) :
    EncodedAs [0xCB, byte (8 * rotCode op + regCode r)] (Instr.rotR op r) := by
  cases op <;> cases r <;> exact fun _ => rfl

theorem encodedAs_rotAtHL (op : RotOp) : EncodedAs [0xCB, byte (0b110 + 8 * rotCode op)] (Instr.rotAtHL op) := by
  cases op <;> exact fun _ => rfl

theorem exec_rotR (op : RotOp) (r : OpReg) (s : State) : exec (Instr.rotR op r) s = rotReg op r.reg s := by
  cases op <;> cases r <;> rfl

theorem exec_rotAtHL (op : RotOp) (s : State) : exec (Instr.rotAtHL op) s = rotMem op s := by
  cases op <;> rfl

/-- Settles O22: the operation on the register's value; Z tests the value written. -/
theorem rotateShiftRegister : Obligations.RotateShiftRegister := by
  intro s op r
  obtain ⟨t, ht, hv, hz, hn, hh, hc, hD⟩ := rotReg_spec op r.reg s r.reg_ne_f
  refine ⟨encodedAs_rotR op r, t, (exec_rotR op r s).trans ht, ?_, ⟨?_, hn, hh, ?_⟩, hD⟩
  · rw [hv, rotate_res]
  · rw [hz, hv, isZero]
  · rw [hc, rotate_cout]

/-- Settles O23: the operation on the byte read at HL; Z tests the byte stored. -/
theorem rotateShiftMemory : Obligations.RotateShiftMemory := by
  intro s op hready
  obtain ⟨t, ht, hv, hz, hn, hh, hc, hD⟩ := rotMem_spec op s hready
  refine ⟨encodedAs_rotAtHL op, t, (exec_rotAtHL op s).trans ht, ?_, ⟨?_, hn, hh, ?_⟩, hD⟩
  · rw [hv, rotate_res]
  · rw [hz, hv, isZero]
  · rw [hc, rotate_cout]

end Sys2Proof.Machine
end

section
/-! The single-bit rows of 44_bit.md: BIT, RES and SET of a register and of the byte at HL. -/

open Sys2Proof.Claims

namespace Sys2Proof.Machine

/-! ### The rows: each with its encoding, and the shape of instruction it is -/

theorem bitR_row (b : Fin 8) (r : OpReg) :
    EncodedAs [0xCB, byte (0b01000000 + 8 * b + regCode r)] (Instr.bitR b r) ∧
      ∀ s, exec (Instr.bitR b r) s = bitReg b r.reg s := by
  fin_cases b <;> cases r <;> exact ⟨fun _ => rfl, fun _ => rfl⟩

theorem resR_row (b : Fin 8) (r : OpReg) :
    EncodedAs [0xCB, byte (0b10000000 + 8 * b + regCode r)] (Instr.resR b r) ∧
      ∀ s, exec (Instr.resR b r) s = changeReg (resBit · b) r.reg s := by
  fin_cases b <;> cases r <;> exact ⟨fun _ => rfl, fun _ => rfl⟩

theorem setR_row (b : Fin 8) (r : OpReg) :
    EncodedAs [0xCB, byte (0b11000000 + 8 * b + regCode r)] (Instr.setR b r) ∧
      ∀ s, exec (Instr.setR b r) s = changeReg (setBit · b) r.reg s := by
  fin_cases b <;> cases r <;> exact ⟨fun _ => rfl, fun _ => rfl⟩

theorem bitAtHL_row (b : Fin 8) :
    EncodedAs [0xCB, byte (0b01000110 + 8 * b)] (Instr.bitAtHL b) ∧
      ∀ s, exec (Instr.bitAtHL b) s = bitMem b s := by
  fin_cases b <;> exact ⟨fun _ => rfl, fun _ => rfl⟩

theorem resAtHL_row (b : Fin 8) :
    EncodedAs [0xCB, byte (0b10000110 + 8 * b)] (Instr.resAtHL b) ∧
      ∀ s, exec (Instr.resAtHL b) s = changeMem (resBit · b) s := by
  fin_cases b <;> exact ⟨fun _ => rfl, fun _ => rfl⟩

theorem setAtHL_row (b : Fin 8) :
    EncodedAs [0xCB, byte (0b11000110 + 8 * b)] (Instr.setAtHL b) ∧
      ∀ s, exec (Instr.setAtHL b) s = changeMem (setBit · b) s := by
  fin_cases b <;> exact ⟨fun _ => rfl, fun _ => rfl⟩

/-! ### BIT -/

/-- What BIT does with a bit: Z is its negation, N and H are fixed, and the rest stays, C with it (R360, R361). -/
def TestsBit (bit : Bool) (cost : Nat) (s t : State) : Prop :=
  t.flag .z = !bit ∧ t.flag .n = false ∧ t.flag .h = true ∧ DataOnly [] [.z, .n, .h] [] cost s t

theorem charge_bitFlags_testsBit (s : State) (bit : Bool) (cost : Nat) (hcost : 4 ≤ cost) :
    TestsBit bit cost s ((s.bitFlags bit).charge cost) := by
  have hflag := s.flag_setFlags_eq { z := some !bit, n := some false, h := some true }
  exact ⟨hflag .z, hflag .n, hflag .h,
    .of_frame (s.bitFlags_frame bit) cost hcost rfl rfl ((Plain.refl s).bitFlags bit).engine⟩

/-- Settles O24: both forms are BIT's flag write, with the bit of the register or of the byte read at HL. -/
theorem bitTestSetsZeroFromBit : Obligations.BitTestSetsZeroFromBit := by
  intro s b
  refine ⟨fun r => ?_, fun hready => ?_⟩
  · obtain ⟨hencoded, hexec⟩ := bitR_row b r
    exact ⟨hencoded, _, hexec s, charge_bitFlags_testsBit s _ 8 (by decide)⟩
  · obtain ⟨hencoded, hexec⟩ := bitAtHL_row b
    exact ⟨hencoded, _, (hexec s).trans (bitMem_ready b s hready), charge_bitFlags_testsBit s _ 12 (by decide)⟩

/-! ### RES and SET -/

/-- The change of a byte gives bit `b` a fixed value and keeps every other bit (R67). -/
def WritesBit (b : Fin 8) (bit : Bool) (f : Byte → Byte) : Prop :=
  ∀ v : Byte, ∀ k < 8, (f v).getLsbD k = if k = b.val then bit else v.getLsbD k

theorem resBit_writesBit (b : Fin 8) : WritesBit b false (resBit · b) := fun v k => getLsbD_resBit v b k

theorem setBit_writesBit (b : Fin 8) : WritesBit b true (setBit · b) := fun v k => getLsbD_setBit v b k

section

variable {b : Fin 8} {bit : Bool} {f : Byte → Byte} (hf : WritesBit b bit f)
include hf

/-- A bit of a register is written, and no flag (R362, R364). -/
theorem WritesBit.changeReg_spec {r : Reg8} (s : State) (hr : r ≠ .f) :
    ∃ t, changeReg f r s = .next t ∧
      (∀ k < 8, (t.get8 r).getLsbD k = if k = b.val then bit else (s.get8 r).getLsbD k) ∧
      DataOnly [r] [] [] 8 s t := by
  obtain ⟨t, ht, hv, hdata⟩ := loadReg_spec r (f (s.get8 r)) 8 s hr (by decide)
  exact ⟨t, (changeReg_eq f r s).trans ht, hv ▸ hf _, hdata⟩

/-- A bit of the byte at HL is written, and no flag (R363, R365). -/
theorem WritesBit.changeMem_spec (s : State) (hready : s.BusReady) :
    ∃ t, changeMem f s = .next t ∧
      (∀ k < 8, (t.bus.mem.read s.hl).getLsbD k = if k = b.val then bit else (s.bus.mem.read s.hl).getLsbD k) ∧
      DataOnly [] [] [s.hl] 16 s t := by
  obtain ⟨t, ht, hv, hdata⟩ := storeMem_spec s.hl (f (s.bus.mem.read s.hl)) 16 s (by decide) hready
  exact ⟨t, (changeMem_ready f s hready).trans ht, hv ▸ hf _, hdata⟩

end

/-- Settles O25: RES and SET write one bit, of the register or of the byte read at HL. -/
theorem resetSetBit : Obligations.ResetSetBit := by
  intro s b
  refine ⟨fun r => ⟨?_, ?_⟩, fun hready => ⟨?_, ?_⟩⟩
  · obtain ⟨hencoded, hexec⟩ := resR_row b r
    exact ⟨hencoded, .of_shape (hexec s) ((resBit_writesBit b).changeReg_spec s r.reg_ne_f)⟩
  · obtain ⟨hencoded, hexec⟩ := setR_row b r
    exact ⟨hencoded, .of_shape (hexec s) ((setBit_writesBit b).changeReg_spec s r.reg_ne_f)⟩
  · obtain ⟨hencoded, hexec⟩ := resAtHL_row b
    exact ⟨hencoded, .of_shape (hexec s) ((resBit_writesBit b).changeMem_spec s hready)⟩
  · obtain ⟨hencoded, hexec⟩ := setAtHL_row b
    exact ⟨hencoded, .of_shape (hexec s) ((setBit_writesBit b).changeMem_spec s hready)⟩

end Sys2Proof.Machine
end

section
/-! The control-flow rows of 45_control.md: jumps, calls and returns, with and without a condition. A row that is not
taken leaves all but the debt (R168). -/

open Sys2Proof.Claims

namespace Sys2Proof.Machine

/-! ### The rows with a field: each with its encoding, and the shape of instruction it is -/

theorem jpCC_row (cc : Cond) (nn : Word) :
    EncodedAs [byte (0b11000010 + 8 * ccCode cc), loByte nn, hiByte nn] (Instr.jpCC cc nn) ∧
      ∀ s, exec (Instr.jpCC cc nn) s = jumpIf cc nn 16 12 s := by
  cases cc <;> exact ⟨decode_n16 rfl nn, fun _ => rfl⟩

theorem jrCC_row (cc : Cond) (e : Byte) :
    EncodedAs [byte (0b00100000 + 8 * ccCode cc), e] (Instr.jrCC cc e) ∧
      ∀ s, exec (Instr.jrCC cc e) s = jumpIf cc (offsetWord s.pc e) 12 8 s := by
  cases cc <;> exact ⟨fun _ => rfl, fun _ => rfl⟩

theorem callCC_row (cc : Cond) (nn : Word) :
    EncodedAs [byte (0b11000100 + 8 * ccCode cc), loByte nn, hiByte nn] (Instr.callCC cc nn) ∧
      ∀ s, exec (Instr.callCC cc nn) s = callIf cc nn s := by
  cases cc <;> exact ⟨decode_n16 rfl nn, fun _ => rfl⟩

theorem retCC_row (cc : Cond) :
    EncodedAs [byte (0b11000000 + 8 * ccCode cc)] (Instr.retCC cc) ∧ ∀ s, exec (Instr.retCC cc) s = retIf cc s := by
  cases cc <;> exact ⟨fun _ => rfl, fun _ => rfl⟩

theorem rstT_row (k : Fin 8) :
    EncodedAs [byte (0b11000111 + 8 * k)] (Instr.rstT k) ∧ ∀ s, exec (Instr.rstT k) s = call (rstTarget k) 16 s := by
  fin_cases k <;> exact ⟨fun _ => rfl, fun _ => rfl⟩

/-! ### Taken and not taken -/

/-- A row not taken goes on at the next instruction with its cost charged. -/
theorem charge_jumpsTo_next (s : State) (cost : Nat) (hcost : 4 ≤ cost) : JumpsTo s.pc cost s (s.charge cost) :=
  ⟨rfl, rfl, Frame.of_eq s _ rfl rfl, ⟨rfl, rfl, rfl, rfl, rfl, rfl, rfl⟩, costs_charge s s cost hcost rfl⟩

/-- A conditional row does what its taken form does where the condition holds, and otherwise nothing but charge its
other cost (R42, R168). -/
theorem Completes.of_cond {i : Instr} {s : State} {cc : Cond} {taken : Result} {notTaken : Nat} {P : State → Prop}
    (hexec : exec i s = if s.cond cc then taken else .next (s.charge notTaken)) (hcost : 4 ≤ notTaken)
    (htaken : ∃ t, taken = .next t ∧ P t) :
    Completes i s fun t => (holds s cc → P t) ∧ (¬ holds s cc → JumpsTo s.pc notTaken s t) := by
  rw [← s.cond_iff_holds]
  by_cases hc : s.cond cc = true
  · rw [if_pos hc] at hexec
    obtain ⟨t, ht, hP⟩ := htaken
    exact ⟨t, hexec.trans ht, fun _ => hP, fun hnot => absurd hc hnot⟩
  · rw [if_neg hc] at hexec
    exact ⟨_, hexec, fun h => absurd h hc, fun _ => charge_jumpsTo_next s notTaken hcost⟩

/-! ### Jumps -/

/-- A relative jump: the signed offset is added to the next instruction's address, modulo 2^16 (R383). -/
theorem jump_offsetWord_spec (e : Byte) (cost : Nat) (s : State) (hcost : 4 ≤ cost) :
    ∃ t, jump (offsetWord s.pc e) cost s = .next t ∧
      (t.pc.toNat : Int) = ((s.pc.toNat : Int) + e.toInt) % 65536 ∧ JumpsTo t.pc cost s t := by
  obtain ⟨t, ht, hpc, hrest⟩ := jump_spec (offsetWord s.pc e) cost s hcost
  exact ⟨t, ht, hpc ▸ toNat_offsetWord s.pc e, rfl, hrest⟩

/-- Settles O27: three jumps, the last with its target relative to the next instruction. -/
theorem unconditionalJumps : Obligations.UnconditionalJumps := by
  intro s
  exact ⟨fun nn => ⟨decode_n16 rfl nn, jump_spec nn 16 s (by decide)⟩,
    ⟨fun _ => rfl, jump_spec s.hl 4 s (by decide)⟩,
    fun e => ⟨fun _ => rfl, jump_offsetWord_spec e 12 s (by decide)⟩⟩

/-- Settles O28: each form is taken as the jump it is. -/
theorem conditionalJumps : Obligations.ConditionalJumps := by
  intro s cc
  refine ⟨fun nn => ?_, fun e => ?_⟩
  · obtain ⟨hencoded, hexec⟩ := jpCC_row cc nn
    exact ⟨hencoded, .of_cond (hexec s) (by decide) (jump_spec nn 16 s (by decide))⟩
  · obtain ⟨hencoded, hexec⟩ := jrCC_row cc e
    exact ⟨hencoded, .of_cond (hexec s) (by decide) (jump_offsetWord_spec e 12 s (by decide))⟩

/-! ### Calls -/

/-- RST's targets are the multiples of 8 (R149). -/
theorem toNat_rstTarget : ∀ k : Fin 8, (rstTarget k).toNat = k.val * 8 := by
  decide

/-- Settles O29: each is taken as one push of PC and a jump. -/
theorem callsPushNextAddress : Obligations.CallsPushNextAddress := by
  intro s hready
  refine ⟨fun nn => ⟨decode_n16 rfl nn, call_spec nn 24 s hready (by decide)⟩, fun cc nn => ?_, fun k => ?_⟩
  · obtain ⟨hencoded, hexec⟩ := callCC_row cc nn
    exact ⟨hencoded, .of_cond (hexec s) (by decide) (call_spec nn 24 s hready (by decide))⟩
  · obtain ⟨hencoded, hexec⟩ := rstT_row k
    obtain ⟨t, ht, hpc, hrest⟩ := call_spec (rstTarget k) 16 s hready (by decide)
    exact ⟨hencoded, t, (hexec s).trans ht, hpc ▸ toNat_rstTarget k, rfl, hrest⟩

/-! ### Returns -/

/-- A return, in the words of the claims. -/
theorem ret_returnsFrom (cost : Nat) (s : State) (hready : s.BusReady) (hcost : 4 ≤ cost) :
    ∃ t, ret cost s = .next t ∧ ReturnsFrom cost s t ∧ KeepsEngine s t := by
  obtain ⟨t, ht, hpc, hsp, hframe, hengine, hcosts⟩ := ret_spec cost s hready hcost
  exact ⟨t, ht, ⟨hpc, hsp, hframe, hcosts⟩, hengine⟩

/-- RETI is the RET of the state with interrupts enabled, since a pop reads no latch (R389). -/
theorem exec_reti (s : State) : exec .reti s = ret 16 { s with ime := true, eiPending := false } := rfl

/-- Settles O30: each is taken as one pop into PC; RETI is a RET after the two latches' writes. -/
theorem returnsPopAddress : Obligations.ReturnsPopAddress := by
  intro s hready
  refine ⟨⟨fun _ => rfl, ret_returnsFrom 16 s hready (by decide)⟩, fun cc => ?_, fun _ => rfl, ?_⟩
  · obtain ⟨hencoded, hexec⟩ := retCC_row cc
    exact ⟨hencoded, .of_cond (hexec s) (by decide) (ret_returnsFrom 20 s hready (by decide))⟩
  · obtain ⟨t, ht, ⟨hpc, hsp, hframe, hcosts⟩, hengine⟩ :=
      ret_returnsFrom 16 { s with ime := true, eiPending := false } ⟨hready.memWf, hready.quiet⟩ (by decide)
    have hlatches := Frame.of_eq s { s with ime := true, eiPending := false } rfl rfl
    exact ⟨t, (exec_reti s).trans ht, ⟨hpc, hsp, hlatches.trans hframe, hcosts⟩, hengine.ime, hengine.eiPending,
      hengine⟩

/-! ### A call and its return -/

/-- A return goes to the word its pop answers, from the state the pop leaves. -/
theorem ret_of_pop16 {s u : State} {v : Word} (cost : Nat) (hpop : s.pop16 = (v, u)) :
    ret cost s = .next ((u.setPC v).charge cost) := by
  simp only [ret, hpop]

/-- Settles O31: RET pops the address CALL pushed, and neither writes a register. -/
theorem callThenReturnResumes : Obligations.CallThenReturnResumes := by
  intro s nn hready
  have hpop := ((s.setPC nn).charge 24).pop16_push16 s.pc ⟨hready.memWf, hready.quiet⟩
  exact ⟨_, rfl, rfl, _, ret_of_pop16 16 hpop, rfl, rfl, rfl⟩

end Sys2Proof.Machine
end

section
/-! The system rows of 46_system.md: NOP, DI, EI, HALT and STOP. Each writes at most the engine's latches or its mode,
and charges one clock unit. -/

open Sys2Proof.Claims

namespace Sys2Proof.Machine

/-- A row that only charges a clock unit, against the state it charges. -/
theorem charge_dataOnly (s : State) : DataOnly [] [] [] 4 s (s.charge 4) :=
  .of_frame (Frame.of_eq s s rfl rfl) 4 (by decide) rfl rfl (KeepsEngine.refl s)

/-- Settles O32: each charges the state with its latches written. -/
theorem nopDisableEnableInterrupts : Obligations.NopDisableEnableInterrupts := by
  intro s
  exact ⟨⟨fun _ => rfl, _, rfl, charge_dataOnly s⟩,
    ⟨fun _ => rfl, _, rfl, rfl, rfl, charge_dataOnly { s with ime := false, eiPending := false }⟩,
    ⟨fun _ => rfl, _, rfl, rfl, rfl, charge_dataOnly { s with eiPending := true }⟩⟩

/-- The state HALT charges: what it writes depends on the enabled requests and on IME (R421, R471). -/
def haltTarget (s : State) : State :=
  if requested s = 0x00#8 then { s with mode := .halted }
  else if s.ime then s
  else { s with haltBug := true }

/-- With no other unit's access among the engine's, HALT's reads of IE and IF change nothing. -/
theorem exec_halt_ready {s : State} (hready : s.BusReady) : exec .halt s = .next ((haltTarget s).charge 4) := by
  have hp : s.pending = (requested s, s) := State.pending_ready s hready
  change execHalt s = _
  rw [execHalt, hp, haltTarget]
  split
  · rfl
  · split <;> rfl

theorem haltTarget_of_no_request {s : State} (h : requested s = 0x00#8) :
    haltTarget s = { s with mode := .halted } :=
  if_pos h

theorem haltTarget_of_ime_false {s : State} (h : requested s ≠ 0x00#8) (hime : s.ime = false) :
    haltTarget s = { s with haltBug := true } := by
  simp [haltTarget, h, hime]

theorem haltTarget_of_ime_true {s : State} (h : requested s ≠ 0x00#8) (hime : s.ime = true) : haltTarget s = s := by
  simp [haltTarget, h, hime]

/-- Settles O33: HALT charges its target, which is one of the three. -/
theorem haltForms : Obligations.HaltForms := by
  intro s hready
  have hcharged := charge_dataOnly (haltTarget s)
  refine ⟨fun _ => rfl, _, exec_halt_ready hready, fun h => ?_, fun h hime => ?_, fun h hime => ?_⟩
  · rwa [haltTarget_of_no_request h] at hcharged ⊢
  · rwa [haltTarget_of_ime_false h hime] at hcharged ⊢
  · rwa [haltTarget_of_ime_true h hime] at hcharged ⊢

/-- A stopped engine without debt does nothing (R172). -/
theorem engineTick_stopped {s : State} (hm : s.mode = .stopped) (hdue : s.cyclesRemaining = 0) :
    engineTick s = .next s := by
  simp [engineTick, hm, hdue]

/-- Settles O34: STOP looks at no operand. -/
theorem stopEntersStoppedForGood : Obligations.StopEntersStoppedForGood := by
  intro s
  exact ⟨fun _ => ⟨fun _ => rfl, _, rfl, charge_dataOnly { s with mode := .stopped }⟩, engineTick_stopped⟩

end Sys2Proof.Machine
end

section
/-! What every step does around the engine's tick: it completes one sub-cycle in every state (R485), which bounds a run
(R490) and fixes when each unit is dispatched (R484). -/

namespace Sys2Proof

theorem Divisor.toNat_dvd_four (d : Divisor) : d.toNat ∣ 4 := by
  cases d <;> decide

end Sys2Proof

namespace Sys2Proof.Machine

/-! ### Every tick completes -/

theorem fetchExecute_completes (s : State) :
    ∃ t, fetchExecute s = .next t ∧ t.sched = s.sched ∧ t.cfg = s.cfg := by
  obtain ⟨b, hbus⟩ := fetch_bus_only s
  unfold fetchExecute
  rcases fetch_cases s with ⟨i, n, s', hs, -⟩ | ⟨v, i, s', hs, -⟩
  all_goals
    rw [hs] at hbus ⊢
    dsimp only at hbus
    subst hbus
  · obtain ⟨t, ht, hcfg⟩ := everyInstructionCompletes i (({ s with bus := b } : State).advance n)
    exact ⟨t.lateEnable s.eiPending, by simp only [ht, afterEffect], by simp [exec_sched ht], by simp [hcfg]⟩
  · obtain ⟨t, ht, hcfg⟩ := everyInstructionCompletes i { s with bus := b }
    have hsched := exec_sched ht
    exact ⟨t, ht, hsched, hcfg⟩

theorem fetchingStep_completes (s : State) :
    ∃ t, fetchingStep s = .next t ∧ t.sched = s.sched ∧ t.cfg = s.cfg := by
  unfold fetchingStep
  dsimp only
  split
  · split
    · exact fetchExecute_completes s.pending.2
    · exact ⟨_, rfl, rfl, rfl⟩
  · exact fetchExecute_completes s

theorem haltedTick_cfg (s : State) : (haltedTick s).cfg = s.cfg := by
  unfold haltedTick
  dsimp only
  split <;> rfl

/-- In every state the engine's tick answers a next state, and leaves the scheduler and the switches. -/
theorem engineTick_completes (s : State) :
    ∃ t, engineTick s = .next t ∧ t.sched = s.sched ∧ t.cfg = s.cfg := by
  unfold engineTick
  split
  · exact ⟨_, rfl, rfl, rfl⟩
  · split
    · exact ⟨_, rfl, rfl, rfl⟩
    · split
      · exact ⟨_, rfl, rfl, rfl⟩
      · exact ⟨_, rfl, haltedTick_sched s, haltedTick_cfg s⟩
      · exact fetchingStep_completes s

/-! ### Every step ends at its barrier -/

theorem Sched.advance_placeholders (c : Sched) : c.advance.placeholders = c.placeholders := by
  unfold Sched.advance
  split <;> rfl

theorem Sched.exclude_placeholders (c : Sched) (u : UnitId) (signal : Option FaultRecord) :
    (c.exclude u signal).placeholders = c.placeholders := by
  cases signal <;> rfl

theorem State.barrier_completed (s : State) (after : List Access) (signal : Option FaultRecord) :
    (s.barrier after signal).completed = s.completed + 1 := by
  obtain ⟨hsub, hstep⟩ := s.sched.exclude_counters .engine signal
  have hadvance := (s.sched.exclude .engine signal).advance_counters
  rwa [hsub, hstep] at hadvance

theorem State.barrier_placeholders (s : State) (after : List Access) (signal : Option FaultRecord) :
    (s.barrier after signal).sched.placeholders = s.sched.placeholders :=
  (Sched.advance_placeholders _).trans (Sched.exclude_placeholders _ _ _)

/-- In every state a step is a sub-cycle's barrier, on a state with the scheduler of the sub-cycle's start. -/
theorem step_eq_barrier (s : State) :
    ∃ u after signal, step s = .next (State.barrier u after signal) ∧ u.sched = s.startSubcycle.sched ∧
      u.cfg = s.cfg := by
  obtain ⟨u, hu, hsched, hcfg⟩ := engineTick_completes s.startSubcycle
  unfold step subcycle
  dsimp only
  split
  · exact ⟨u, _, _, by rw [hu], hsched, hcfg⟩
  · exact ⟨s.startSubcycle, _, _, rfl, rfl, rfl⟩

/-- Settles O55: a step is a barrier, which makes every outstanding access and advances the counters. -/
theorem everyStepCompletesOneSubcycle : Obligations.EveryStepCompletesOneSubcycle := by
  intro s
  obtain ⟨u, after, signal, hstep, hsched, hcfg⟩ := step_eq_barrier s
  have hcompleted : u.completed = s.completed := by
    unfold State.completed
    rw [hsched]
    rfl
  exact ⟨_, hstep, by rw [State.barrier_completed, hcompleted], State.barrier_gaps u after signal, hcfg⟩

/-! ### A run to its bound -/

/-- The fuel of the loop is the number of sub-cycles left to the bound. -/
theorem runLoop_completes {bound : Nat} (fuel : Nat) (s : State) (h : s.completed + fuel = 4 * bound) :
    ∃ t, runLoop bound fuel s = .next t ∧ t.completed = 4 * bound := by
  induction fuel generalizing s with
  | zero => exact ⟨s, rfl, h⟩
  | succ fuel ih =>
    obtain ⟨u, hu, hcompleted, -⟩ := everyStepCompletesOneSubcycle s
    have hbelow : s.sched.macroStep < bound := by
      unfold State.completed at h
      omega
    simp only [runLoop, if_pos hbelow, hu]
    exact ih u (by omega)

/-- Settles O56: the loop's rounds are the sub-cycles up to the bound, four for each unit of it. -/
theorem runEndsAtMacroBound : Obligations.RunEndsAtMacroBound := by
  intro s bound hzero hsub
  obtain ⟨t, ht, hcompleted⟩ := runLoop_completes (bound := bound) (Config.subcycles * bound) s
    (by simp [State.completed, hzero, hsub, Config.subcycles])
  have hlt := t.sched.sub.isLt
  unfold State.completed at hcompleted
  exact ⟨t, ht, by omega, Fin.ext (show t.sched.sub.val = 0 by omega)⟩

/-! ### The units dispatched -/

/-- The unit list and its divisors stay. -/
theorem step_divisor {s t : State} (h : step s = .next t) (u : UnitId) :
    t.sched.divisor? u = s.sched.divisor? u := by
  obtain ⟨v, after, signal, hstep, hsched, -⟩ := step_eq_barrier s
  cases hstep.symm.trans h
  cases u with
  | engine => rfl
  | placeholder i =>
    have hdivisor := s.sched.divisor_tickedFrom 0 i s.sched.placeholders
    have hmap := congrArg (Option.map Divisor.toNat) hdivisor
    simp only [Option.map_map] at hmap
    unfold Sched.divisor?
    rw [State.barrier_placeholders, hsched]
    exact hmap

/-- The dispatch test of R484, by the sub-cycles completed: the divisor of a unit divides 4. -/
theorem State.dispatches_iff {s : State} {u : UnitId} {d : Nat} (hd : s.sched.divisor? u = some d) (h4 : d ∣ 4)
    (hu : u ∉ s.sched.excluded) : s.sched.dispatches u = true ↔ d ∣ s.completed := by
  have hsub : d ∣ s.completed ↔ s.sched.sub.val % d = 0 := by
    rw [State.completed, Nat.dvd_add_right (h4.mul_right _), Nat.dvd_iff_mod_eq_zero]
  simp [Sched.dispatches, hd, hu, hsub]

/-- Only the engine is ever excluded (R488). -/
theorem State.Inv.placeholder_not_excluded {s : State} (h : s.Inv) (i : Nat) :
    UnitId.placeholder i ∉ s.sched.excluded := by
  rw [h.excluded]
  split <;> simp

/-- A placeholder is dispatched in those of the coming sub-cycles whose number its divisor divides. -/
theorem dispatchCount_placeholder {i d : Nat} (h4 : d ∣ 4) (n : Nat) {s : State} (h : s.Inv)
    (hd : s.sched.divisor? (.placeholder i) = some d) :
    dispatchCount (.placeholder i) n s = Nat.count (fun k => d ∣ s.completed + k) n := by
  induction n generalizing s with
  | zero => rfl
  | succ n ih =>
    obtain ⟨t, ht, hcompleted, -⟩ := everyStepCompletesOneSubcycle s
    have hrest := ih (stepKeepsInvariant s t h ht) ((step_divisor ht _).trans hd)
    simp only [hcompleted, Nat.add_assoc, Nat.add_comm 1] at hrest
    simp only [dispatchCount, ht, hrest, Nat.count_succ', State.dispatches_iff hd h4 (h.placeholder_not_excluded i),
      Nat.add_zero]
    exact Nat.add_comm _ _

/-- Over a multiple of four sub-cycles a placeholder of divisor `d` is dispatched in every `d`-th sub-cycle. -/
theorem dispatchCount_mul_divisor {i d n : Nat} (h4 : d ∣ 4) (hn : 4 ∣ n) {s : State} (h : s.Inv)
    (hsub : s.sched.sub = 0) (hd : s.sched.divisor? (.placeholder i) = some d) :
    dispatchCount (.placeholder i) n s * d = n := by
  have hdvd (k : Nat) : d ∣ s.completed + k ↔ k ≡ 0 [MOD d] := by
    rw [State.completed, hsub, Nat.modEq_zero_iff_dvd]
    exact Nat.dvd_add_right (h4.mul_right _)
  have hdn : d ∣ n := h4.trans hn
  rw [dispatchCount_placeholder h4 n h hd]
  simp only [hdvd, Nat.count_modEq_card n (Nat.pos_of_dvd_of_pos h4 (by decide)), Nat.mod_eq_zero_of_dvd hdn,
    Nat.not_lt_zero, if_false, Nat.add_zero, Nat.div_mul_cancel hdn]

/-- The engine is due in sub-cycle 0 alone (R481, R484). -/
theorem Sched.sub_of_dispatches_engine {c : Sched} (h : c.dispatches .engine = true) : c.sub.val = 0 := by
  simp only [Sched.dispatches, Sched.divisor?, Config.cpuDivisor, Bool.and_eq_true, decide_eq_true_eq] at h
  obtain ⟨-, hmod⟩ := h
  omega

theorem State.Inv.dispatches_engine_iff {s : State} (h : s.Inv) :
    s.sched.dispatches .engine = true ↔ s.fault = none ∧ s.sched.sub.val = 0 := by
  refine ⟨fun hd => ⟨h.fault_none_of_dispatches hd, Sched.sub_of_dispatches_engine hd⟩, fun ⟨hf, hsub⟩ => ?_⟩
  simp [Sched.dispatches, Sched.divisor?, h.excluded, hf, hsub]

/-- After sub-cycle 0 the engine is not dispatched before the next one. -/
theorem dispatchCount_engine_within (n : Nat) {s : State} (hpos : 0 < s.sched.sub.val)
    (hn : s.sched.sub.val + n ≤ 4) : dispatchCount .engine n s = 0 := by
  induction n generalizing s with
  | zero => rfl
  | succ n ih =>
    have hnot : s.sched.dispatches .engine = false :=
      Bool.eq_false_of_not_eq_true fun hd => hpos.ne' (Sched.sub_of_dispatches_engine hd)
    obtain ⟨t, ht, hcompleted, -⟩ := everyStepCompletesOneSubcycle s
    simp only [dispatchCount, hnot, ht, Bool.false_eq_true, if_false, Nat.zero_add]
    rcases n with - | n
    · rfl
    · have hlt := t.sched.sub.isLt
      unfold State.completed at hcompleted
      exact ih (by omega) (by omega)

/-- Of four sub-cycles from sub-cycle 0 on, only the first can dispatch the engine. -/
theorem dispatchCount_engine_macroStep {s : State} (hsub : s.sched.sub = 0) :
    dispatchCount .engine 4 s = if s.sched.dispatches .engine then 1 else 0 := by
  obtain ⟨t, ht, hcompleted, -⟩ := everyStepCompletesOneSubcycle s
  have hone : t.sched.sub.val = 1 := by
    have hlt := t.sched.sub.isLt
    simp only [State.completed, hsub] at hcompleted
    omega
  have hrest : dispatchCount .engine 3 t = 0 := dispatchCount_engine_within 3 (by omega) (by omega)
  rw [dispatchCount, ht]
  simp only [hrest, Nat.add_zero]

/-- Settles O54: the counts are those of the dispatch test over the coming sub-cycles. -/
theorem dispatchesPerMacroStep : Obligations.DispatchesPerMacroStep := by
  intro s h
  refine ⟨fun hf => by simp [h.dispatches_engine_iff, hf], fun hsub => ?_, fun i p hp => ?_⟩
  · rw [dispatchCount_engine_macroStep hsub]
    simp [h.dispatches_engine_iff, hsub]
  · have hd : s.sched.divisor? (.placeholder i) = some p.divisor.toNat := by simp [Sched.divisor?, hp]
    have h4 := p.divisor.toNat_dvd_four
    refine ⟨?_, fun hsub => ⟨dispatchCount_mul_divisor h4 (by decide) h hsub hd,
      dispatchCount_mul_divisor h4 (by decide) h hsub hd⟩⟩
    simp [Sched.dispatches, hd, h.placeholder_not_excluded i]

end Sys2Proof.Machine
end

section
/-! The fault of an unpopulated slot, from the step that raises it on: the record, the report and the exclusion are made
once (R453, R488), and then nothing of the engine changes (R454). -/

open Sys2Proof.Claims

namespace Sys2Proof.Claims

theorem EngineFrozen.refl (s : Machine.State) : EngineFrozen s s := ⟨rfl, rfl, rfl, rfl, rfl, rfl, rfl, rfl, rfl⟩

theorem EngineFrozen.trans {s t u : Machine.State} (h1 : EngineFrozen s t) (h2 : EngineFrozen t u) :
    EngineFrozen s u where
  regs := h2.regs.trans h1.regs
  pc := h2.pc.trans h1.pc
  sp := h2.sp.trans h1.sp
  ime := h2.ime.trans h1.ime
  eiPending := h2.eiPending.trans h1.eiPending
  haltBug := h2.haltBug.trans h1.haltBug
  mode := h2.mode.trans h1.mode
  cyclesRemaining := h2.cyclesRemaining.trans h1.cyclesRemaining
  fault := h2.fault.trans h1.fault

end Sys2Proof.Claims

namespace Sys2Proof.Machine

/-! ### The step that raises the fault -/

/-- The tick that fetches an unpopulated slot raises InvalidOpcode with PC at the slot (R451). -/
theorem engineTick_unpopulated {s : State} {b : Byte} {i : Instr} (hready : s.BusReady) (hf : Fetching s)
    (hb : (b, i) ∈ Instr.unpopulatedSlots) (hpc : s.bus.mem.read s.pc = b) :
    engineTick s = .next (s.raise .invalidOpcode [b]) := by
  have htick : engineTick s = fetchExecute s := by
    simp [engineTick, hf.running, hf.due, fetchingStep_ready hready hf]
  rw [htick, fetchExecute, fetch_ready_unpopulated s hready i (by rw [hpc, baseSlot_unpopulated hb])]
  exact exec_unpopulated s hb

/-- With no access left to make, the barrier leaves the bus. -/
theorem State.barrier_bus_quiet (s : State) (signal : Option FaultRecord) (h : s.bus.gaps = []) :
    (s.barrier [] signal).bus = s.bus :=
  Bus.drain_quiet s.bus h

/-- With the placeholders idle the step that fetches a slot signals the fault its tick raises (R450). -/
theorem step_unpopulated {s : State} {b : Byte} {i : Instr} (h : s.Inv) (hidle : OthersIdle s) (hf : Fetching s)
    (hsub : s.sched.sub = 0) (hb : (b, i) ∈ Instr.unpopulatedSlots) (hpc : s.bus.mem.read s.pc = b) :
    step s = .next ((s.startSubcycle.raise .invalidOpcode [b]).barrier []
      (some { kind := .invalidOpcode, pc := s.pc, bytes := [b] })) := by
  have hfault : s.fault = none := h.engine.fault_none (by rw [hf.running]; rfl)
  have hdispatch : s.sched.dispatches .engine = true := h.dispatches_engine_iff.mpr ⟨hfault, by rw [hsub]; rfl⟩
  have htick : engineTick s.startSubcycle = .next (s.startSubcycle.raise .invalidOpcode [b]) := by
    rw [s.startSubcycle_idle h.quiet hidle]
    exact engineTick_unpopulated ⟨h.memWf, h.quiet⟩ ⟨hf.running, hf.due, hf.noInterrupt⟩ hb hpc
  have hsignal : faultSignal s.startSubcycle (s.startSubcycle.raise .invalidOpcode [b]) =
      some { kind := .invalidOpcode, pc := s.pc, bytes := [b] } := by
    have hmode : s.startSubcycle.mode = .running := hf.running
    rw [faultSignal, hmode]
    rfl
  simp only [step, subcycle, hdispatch, if_true, htick, Sched.woven_idle _ hidle, hsignal]

/-- Settles O51: the start of the sub-cycle and the barrier leave all but the scheduler, whose exclusion and report the
invariant of the next state gives. -/
theorem invalidOpcodeIsPreciseAndReported : Obligations.InvalidOpcodeIsPreciseAndReported := by
  intro s b i h hidle hf hsub hb hpc
  have hstep := step_unpopulated h hidle hf hsub hb hpc
  have hinv := stepKeepsInvariant s _ h hstep
  have hbus : s.startSubcycle.bus = s.bus := by rw [s.startSubcycle_idle h.quiet hidle]
  exact ⟨_, hstep, rfl, rfl, ⟨rfl, rfl, rfl, rfl, rfl, rfl, rfl, rfl, rfl⟩,
    (State.barrier_bus_quiet _ _ (hbus ▸ h.quiet)).trans hbus, hinv.excluded, hinv.reported⟩

/-! ### The steps after it -/

theorem Sched.advance_excluded (c : Sched) : c.advance.excluded = c.excluded := by
  unfold Sched.advance
  split <;> rfl

theorem Sched.advance_reports (c : Sched) : c.advance.reports = c.reports := by
  unfold Sched.advance
  split <;> rfl

/-- A sub-cycle that does not dispatch the engine leaves it, and reports nothing. -/
theorem step_undispatched {s t : State} (hd : s.sched.dispatches .engine = false) (ht : step s = .next t) :
    EngineFrozen s t ∧ t.sched.excluded = s.sched.excluded ∧ t.sched.reports = s.sched.reports := by
  simp only [step, subcycle, hd, Bool.false_eq_true, if_false] at ht
  cases ht
  exact ⟨⟨rfl, rfl, rfl, rfl, rfl, rfl, rfl, rfl, rfl⟩, Sched.advance_excluded _, Sched.advance_reports _⟩

/-- A run begins with its first step. -/
theorem run_succ_of_step (M : Host.Core) (n : Nat) {s u : M.State} (h : M.step s = .next u) :
    M.run (n + 1) s = M.run n u := by
  simp only [Host.Core.run, h]

/-- Settles O52: a faulted engine is excluded, and an excluded one is not dispatched. -/
theorem faultedEngineStaysFrozen : Obligations.FaultedEngineStaysFrozen := by
  intro s t n h hf ht
  induction n generalizing s with
  | zero =>
    cases ht
    exact ⟨EngineFrozen.refl _, rfl, rfl⟩
  | succ n ih =>
    obtain ⟨u, hu, -⟩ := everyStepCompletesOneSubcycle s
    have hnot : s.sched.dispatches .engine = false :=
      Bool.eq_false_of_not_eq_true fun hd => by simp [h.fault_none_of_dispatches hd] at hf
    obtain ⟨hfrozen, hexcluded, hreports⟩ := step_undispatched hnot hu
    have hrest : Host.Core.run Sys2Proof.core n u = .next t :=
      (run_succ_of_step Sys2Proof.core n hu).symm.trans ht
    obtain ⟨hfrozen', hexcluded', hreports'⟩ :=
      ih u (stepKeepsInvariant s u h hu) (by rw [hfrozen.fault]; exact hf) hrest
    exact ⟨hfrozen.trans hfrozen', hexcluded'.trans hexcluded, hreports'.trans hreports⟩

end Sys2Proof.Machine
end

section
/-! Interrupt dispatch (R472-R474): the acknowledgement in IF, then the push of the return address over it. -/

open Sys2Proof.Claims

namespace Sys2Proof.Machine

/-! ### The request -/

/-- Only the five sources are ever requested (R471). -/
theorem requested_and_sources (s : State) : requested s &&& 0x1F#8 = requested s := by
  rw [requested, BitVec.and_assoc, BitVec.and_self]

/-- The source served is the lowest one requested (R472). -/
theorem lowestSource_requested {s : State} {k : Nat} (hk : (requested s).getLsbD k = true)
    (hlow : ∀ j < k, (requested s).getLsbD j = false) : (lowestSource (requested s)).val = k :=
  lowestSource_eq _ k (requested_and_sources s) hk hlow

theorem toNat_vectorOf (k : Fin 5) : (vectorOf k).toNat = 0x40 + 8 * k.val := by
  have hk := k.isLt
  rw [vectorOf, BitVec.toNat_ofNat]
  omega

/-- The acknowledgement clears one bit of IF and keeps every other (R472). -/
theorem getLsbD_acknowledge (iff : Byte) (k : Fin 5) (j : Nat) (hj : j < 8) :
    (acknowledge iff k).getLsbD j = if j = k.val then false else iff.getLsbD j := by
  have hres : acknowledge iff k = resBit iff (k.castLE (by decide)) := by
    simp [acknowledge, resBit]
  rw [hres, getLsbD_resBit _ _ _ hj]
  rfl

/-! ### The dispatch -/

/-- With a request to serve, the Fetching tick is the dispatch: nothing is fetched (R164, R472). -/
theorem engineTick_dispatch {s : State} (hready : s.BusReady) (hrun : s.mode = .running) (hdue : s.cyclesRemaining = 0)
    (hirq : s.cfg.irqDispatch = true) (hime : s.ime = true) (hreq : requested s ≠ 0x00#8) :
    engineTick s = .next (s.dispatch (requested s)) := by
  have hp : s.pending = (requested s, s) := State.pending_ready s hready
  simp [engineTick, hrun, hdue, fetchingStep, hirq, hime, hp, hreq]

/-- The state with the lowest source of `p` acknowledged in IF: the first of a dispatch's three writes. -/
def State.acknowledged (s : State) (p : Byte) : State :=
  s.busWrite ifAddr (acknowledge (s.bus.mem.read ifAddr) (lowestSource p))

section

variable {s : State} (hready : s.BusReady) (p : Byte)
include hready

theorem State.acknowledged_ready : (s.acknowledged p).BusReady := s.busWrite_stays_ready _ _ hready

/-- On the bus a dispatch is the acknowledgement and the push of the return address. -/
theorem State.dispatch_bus_ready :
    (s.dispatch p).bus = ((s.acknowledged p).push16 (s.pc - bitWord s.haltBug)).bus := by
  rw [s.dispatch_ready p hready, State.push16_ready _ _ (State.acknowledged_ready hready p), State.acknowledged,
    s.busWrite_ready _ _ hready]

theorem State.acknowledged_push16_frame (v : Word) :
    Frame [] [] [s.sp - 1, s.sp - 2] (s.acknowledged p) ((s.acknowledged p).push16 v) :=
  (s.acknowledged p).push16_frame v (State.acknowledged_ready hready p)

/-- A dispatch writes IF and the two bytes below the stack top. -/
theorem State.dispatch_frame : Frame [] [] [ifAddr, s.sp - 1, s.sp - 2] s (s.dispatch p) :=
  ((s.busWrite_frame ifAddr _ hready).trans (State.acknowledged_push16_frame hready p _)).trans
    (Frame.of_eq _ _ rfl (State.dispatch_bus_ready hready p))

/-- The word pushed is the return address, the HALT's own under the halt bug (R472). -/
theorem State.dispatch_pushes :
    wordOf ((s.dispatch p).bus.mem.read (s.sp - 1)) ((s.dispatch p).bus.mem.read (s.sp - 2)) =
      s.pc - bitWord s.haltBug := by
  obtain ⟨hhigh, hlow⟩ :=
    (s.acknowledged p).push16_bytes (s.pc - bitWord s.haltBug) (State.acknowledged_ready hready p)
  rw [State.dispatch_bus_ready hready p]
  exact (congrArg₂ wordOf hhigh hlow).trans (wordOf_hiByte_loByte _)

/-- Where the push does not reach IF, its byte is the acknowledged one. -/
theorem State.dispatch_acknowledges (h1 : s.sp - 1 ≠ ifAddr) (h2 : s.sp - 2 ≠ ifAddr) :
    (s.dispatch p).bus.mem.read ifAddr = acknowledge (s.bus.mem.read ifAddr) (lowestSource p) := by
  rw [State.dispatch_bus_ready hready p,
    (State.acknowledged_push16_frame hready p _).mem ifAddr (by simpa using ⟨h1.symm, h2.symm⟩)]
  exact s.bus.read_write_same ifAddr _ hready.memWf

end

/-- Settles O49: the tick is the dispatch of the requested byte, whose lowest source is `k`. -/
theorem interruptDispatchServesLowestSource : Obligations.InterruptDispatchServesLowestSource := by
  intro s k hready hrun hdue hirq hime hk hlow
  have hreq : requested s ≠ 0x00#8 := by
    intro hnone
    simp [hnone] at hk
  have hsource := lowestSource_requested hk hlow
  refine ⟨_, engineTick_dispatch hready hrun hdue hirq hime hreq, ?_, ?_, fun h1 h2 j hj => ?_,
    State.dispatch_pushes hready _, State.dispatch_frame hready _, ?_, ⟨rfl, rfl, rfl, rfl, rfl, rfl, rfl⟩⟩
  · rw [State.dispatch_pc, toNat_vectorOf, hsource]
  · rw [State.dispatch_ready s _ hready]
  · have hif := State.dispatch_acknowledges hready (requested s) h1 h2
    exact hsource ▸ (congrArg (BitVec.getLsbD · j) hif).trans (getLsbD_acknowledge _ _ j hj)
  · exact costs_charge s _ dispatchCost (by decide) rfl

end Sys2Proof.Machine
end
